-- ==== Sys2Proof/Word.lean ====
section
/-! DEFINITION. The word types of 00_scope.md R9 and R10: bytes, half-words (the CRC) and 32-bit register values. -/

namespace Sys2Proof

/-- A data byte (00_scope.md R10). -/
abbrev Byte := BitVec 8

/-- A half-word: the CRC value (00_scope.md R10). -/
abbrev Half := BitVec 16

/-- A register value on the bus (00_scope.md R9). -/
abbrev Word := BitVec 32

/-- A byte offset from `BASE`, `OFF` of the transaction word (30_encoding.md R81). -/
abbrev Offset := BitVec 12

end Sys2Proof
end

