-- ==== Sys2Proof/Config.lean ====
section
/-! DEFINITION. The parameters of 00_scope.md R8, with the value the spec decides, and the ones it leaves OPEN as
uninterpreted constants (log 13). -/

namespace Sys2Proof.Config

/-- First frame byte (00_scope.md R8). -/
abbrev sync : Byte := 0x02#8

/-- Second frame byte, the fixed peripheral address (00_scope.md R8). -/
abbrev addr : Byte := 0x03#8

/-- Largest total frame length the LEN byte encodes (00_scope.md R8, 41_encoder.md R133). -/
abbrev lenLimit : Nat := 250

/-- Bytes of a frame that are not payload: SYNC, ADDR, LEN, CMD and two checksum bytes (30_encoding.md R86). -/
abbrev frameOverhead : Nat := 6

/-- Reflected CRC polynomial (00_scope.md R8, 90_conflicts.md C5). -/
abbrev poly : Half := 0x8408#16

/-- Initial CRC value for a frame (00_scope.md R8). -/
abbrev crcInit : Half := 0x0000#16

/-- Capacity of the transmit payload queue, bytes (00_scope.md R8). -/
abbrev txqDepth : Nat := 256

/-- Capacity of the receive buffer, bytes (00_scope.md R8). -/
abbrev rxbufSize : Nat := 262

/-- Reset value of `RX_GAP.GAP`, bit times (00_scope.md R8). -/
abbrev rxGapReset : Byte := 20#8

/-- Line rates selected by `CTRL.BAUD_SEL` (30_encoding.md R85, 43_control.md R191). -/
def baudRate (sel : Bool) : Nat := if sel then 19200 else 9600

/-- Size of the register window (20_memory.md R60). -/
abbrev windowSize : Nat := 0x1000

/-- OPEN (00_scope.md R8): which multiple of the window's size `BASE` is. -/
opaque baseIndex : Nat

/-- `BASE`, the bus address of offset 0, a multiple of 0x1000 (20_memory.md R60). -/
def base : Nat := windowSize * baseIndex

/-- OPEN (00_scope.md R8): block clock frequency; no rule depends on it. -/
opaque fClk : Nat

/-- OPEN (00_scope.md R8, 60_exceptions.md R250): the platform interrupt input that `irq` drives. -/
opaque irqLine : Nat

/-- OPEN (00_scope.md R8, 70_reset_and_hazards.md R270): whether the reset input is synchronous; no rule depends on it. -/
opaque resetSync : Bool

/-! Command codes, 30_encoding.md R91. -/

/-- ACK (44_protocol_commands.md R220). -/
abbrev codeAck : Byte := 0x00#8
/-- NAK (44_protocol_commands.md R221). -/
abbrev codeNak : Byte := 0xFF#8
/-- POLL (44_protocol_commands.md R222). -/
abbrev codePoll : Byte := 0x33#8
/-- RESET (44_protocol_commands.md R223). -/
abbrev codeReset : Byte := 0x30#8
/-- GET_STATUS (44_protocol_commands.md R224). -/
abbrev codeGetStatus : Byte := 0x31#8
/-- SET_SECURITY (44_protocol_commands.md R225). -/
abbrev codeSetSecurity : Byte := 0x32#8
/-- ENABLE_BILL_TYPES (44_protocol_commands.md R226). -/
abbrev codeEnableBillTypes : Byte := 0x34#8
/-- STACK (44_protocol_commands.md R227). -/
abbrev codeStack : Byte := 0x35#8
/-- RETURN (44_protocol_commands.md R228). -/
abbrev codeReturn : Byte := 0x36#8
/-- IDENTIFICATION (44_protocol_commands.md R229). -/
abbrev codeIdentification : Byte := 0x37#8
/-- HOLD (44_protocol_commands.md R230). -/
abbrev codeHold : Byte := 0x38#8

end Sys2Proof.Config
end

