-- ==== Sys2Proof/Machine/Frame.lean ====
section
/-! DEFINITION. The pure functions of BVRS's Packet Codec: the CRC (40_crc.md R110, R111), the LEN byte
(41_encoder.md R133) and the frame (41_encoder.md R130). -/

namespace Sys2Proof.Machine

open Sys2Proof.Config

/-- `lo(h)` (00_scope.md R11). -/
def lo (h : Half) : Byte := h.truncate 8

/-- `hi(h)` (00_scope.md R11). -/
def hi (h : Half) : Byte := (h >>> 8).truncate 8

/-- A half-word from its low and high bytes, the reading of the two checksum bytes (42_decoder.md R170). -/
def halfOf (low high : Byte) : Half := low.zeroExtend 16 ||| (high.zeroExtend 16 <<< 8)

/-- One turn of the loop of 40_crc.md R110. -/
def crcShift (c : Half) : Half := if c.getLsbD 0 then (c >>> 1) ^^^ poly else c >>> 1

/-- `n` turns of the loop of 40_crc.md R110. -/
def crcShifts : Nat → Half → Half
  | 0, c => c
  | n + 1, c => crcShifts n (crcShift c)

/-- `crc_step(c, b)` (40_crc.md R110). -/
def crcStep (c : Half) (b : Byte) : Half := crcShifts 8 (c ^^^ b.zeroExtend 16)

/-- `crc_step` applied left to right from `c` (40_crc.md R111, R116: a checksum resumed from a saved value). -/
def crcFold (c : Half) : List Byte → Half
  | [] => c
  | b :: bs => crcFold (crcStep c b) bs

/-- `CRC16(xs)` (40_crc.md R111): no final XOR, no final reversal. -/
def crc16 (xs : List Byte) : Half := crcFold crcInit xs

/-- `len_byte(P)` (41_encoder.md R133, 30_encoding.md R87). -/
def lenByte (p : Nat) : Byte := if p + frameOverhead ≤ lenLimit then BitVec.ofNat 8 (p + frameOverhead) else 0#8

/-- The bytes of a frame before its checksum (41_encoder.md R130). -/
def frameHead (cmd : Byte) (payload : List Byte) : List Byte := sync :: addr :: lenByte payload.length :: cmd :: payload

/-- The two checksum bytes of a byte list, low byte first (30_encoding.md R86, 20_memory.md R65). -/
def checksumBytes (xs : List Byte) : List Byte := [lo (crc16 xs), hi (crc16 xs)]

/-- `build_frame(cmd, payload)` (41_encoder.md R130). -/
def buildFrame (cmd : Byte) (payload : List Byte) : List Byte :=
  frameHead cmd payload ++ checksumBytes (frameHead cmd payload)

/-- A frame without its last two bytes, what its checksum covers (42_decoder.md R170). -/
def frameBody (f : List Byte) : List Byte := f.take (f.length - 2)

end Sys2Proof.Machine
end

