-- ==== Sys2Proof/Syntax.lean ====
section
/-! DEFINITION. The inputs of the block in their raw formats (30_encoding.md R80 to R83, R86), and `Instr`: one
constructor per row of spec/opcode_table.json. A constructor's arguments are what the row's encoding leaves free. -/

namespace Sys2Proof

/-- The width of an access that is not 32 bits (20_memory.md R61: "8 or 16 bits, or wider than 32"). -/
inductive OddWidth where
  | byte
  | half
  | wide
  deriving DecidableEq, Repr

/-- One step's input before decoding.
`bus`: the 45-bit transaction word of a 32-bit access (30_encoding.md R81).
`odd`: an access of another width, which has no transaction word (R81).
`event`: the 10-bit word of a step not made by the host (R82).
`frame`: the bytes of a command frame software wants sent (R86, 44_protocol_commands.md). -/
inductive Raw where
  | bus (t : BitVec 45)
  | odd (w : OddWidth) (write : Bool) (off : Offset)
  | event (e : BitVec 10)
  | frame (bytes : List Byte)
  deriving DecidableEq, Repr

/-- What can reach the block: a step's raw input, or a level of the reset input (70_reset_and_hazards.md R270). -/
inductive Input where
  | raw (r : Raw)
  | resetPin (asserted : Bool)
  deriving DecidableEq, Repr

/-- An access the block answers with an error response: a transaction word no register row matches
(20_memory.md R61 misaligned, R62 unmapped), or an access that is not 32 bits wide (R61). -/
inductive BadAccess where
  | word (t : BitVec 45)
  | width (w : OddWidth) (write : Bool) (off : Offset)
  deriving DecidableEq, Repr

/-- The block's instructions: bus transactions, events and command frames, in the order of the opcode table. -/
inductive Instr where
  /-- CTRL_RD. Read of `CTRL` (43_control.md R192). -/
  | ctrlRd
  /-- CTRL_WR. Write of `CTRL` with `DATA[31] = 0` (43_control.md R193). -/
  | ctrlWr (data : Word)
  /-- CTRL_SRST. Write of `CTRL` with `DATA[31] = 1`, the soft reset (70_reset_and_hazards.md R271). -/
  | ctrlSrst (data : Word)
  /-- STATUS_RD. Read of `STATUS` (43_control.md R194). -/
  | statusRd
  /-- STATUS_WR. Write of `STATUS` (43_control.md R195). -/
  | statusWr (data : Word)
  /-- IE_RD. Read of `IE` (43_control.md R196). -/
  | ieRd
  /-- IE_WR. Write of `IE` (43_control.md R197). -/
  | ieWr (data : Word)
  /-- ERR_RD. Read of `ERR` (43_control.md R198). -/
  | errRd
  /-- ERR_WR. Write of `ERR` (43_control.md R199). -/
  | errWr (data : Word)
  /-- CRC_ACC_RD. Read of `CRC_ACC` (40_crc.md R114). -/
  | crcAccRd
  /-- CRC_ACC_WR. Write of `CRC_ACC` (40_crc.md R116). -/
  | crcAccWr (data : Word)
  /-- CRC_DATA_RD. Read of `CRC_DATA` (40_crc.md R117). -/
  | crcDataRd
  /-- CRC_DATA_WR. Write of `CRC_DATA` (40_crc.md R115). -/
  | crcDataWr (data : Word)
  /-- TX_CMD_RD. Read of `TX_CMD` (41_encoder.md R143). -/
  | txCmdRd
  /-- TX_CMD_WR. Write of `TX_CMD` (41_encoder.md R132). -/
  | txCmdWr (data : Word)
  /-- TX_DATA_RD. Read of `TX_DATA` (41_encoder.md R148). -/
  | txDataRd
  /-- TX_DATA_WR. Write of `TX_DATA` (41_encoder.md R131). -/
  | txDataWr (data : Word)
  /-- TX_GO_RD. Read of `TX_GO` (41_encoder.md R148). -/
  | txGoRd
  /-- GO_NOP. `TX_GO` with `OP = 0x0` (41_encoder.md R136). -/
  | goNop (data : Word)
  /-- GO_ENCODE. `TX_GO` with `OP = 0x1` (41_encoder.md R137). -/
  | goEncode (data : Word)
  /-- GO_ACK. `TX_GO` with `OP = 0x2` (41_encoder.md R138). -/
  | goAck (data : Word)
  /-- GO_NAK. `TX_GO` with `OP = 0x3` (41_encoder.md R139). -/
  | goNak (data : Word)
  /-- GO_FLUSH. `TX_GO` with `OP = 0x4` (41_encoder.md R140). -/
  | goFlush (data : Word)
  /-- GO_RSVD_5. `TX_GO` with `OP = 0x5` (41_encoder.md R141). -/
  | goRsvd5 (data : Word)
  /-- GO_RSVD_6_7. `TX_GO` with `OP` 0x6 or 0x7 (41_encoder.md R141). -/
  | goRsvd67 (data : Word)
  /-- GO_RSVD_8_F. `TX_GO` with `OP` from 0x8 to 0xF (41_encoder.md R141). -/
  | goRsvd8F (data : Word)
  /-- TX_COUNT_RD. Read of `TX_COUNT` (41_encoder.md R144). -/
  | txCountRd
  /-- TX_LAST_CRC_RD. Read of `TX_LAST_CRC` (41_encoder.md R145). -/
  | txLastCrcRd
  /-- TX_LAST_LEN_RD. Read of `TX_LAST_LEN` (41_encoder.md R146). -/
  | txLastLenRd
  /-- RX_CTRL_RD. Read of `RX_CTRL` (42_decoder.md R179). -/
  | rxCtrlRd
  /-- RX_CTRL_NOP. Write of `RX_CTRL` with `DATA[0] = 0` (42_decoder.md R179). -/
  | rxCtrlNop (data : Word)
  /-- RX_RELEASE. Write of `RX_CTRL` with `DATA[0] = 1` (42_decoder.md R176). -/
  | rxRelease (data : Word)
  /-- RX_COUNT_RD. Read of `RX_COUNT` (42_decoder.md R174). -/
  | rxCountRd
  /-- RX_CRC_CALC_RD. Read of `RX_CRC_CALC` (42_decoder.md R175). -/
  | rxCrcCalcRd
  /-- RX_CRC_RECV_RD. Read of `RX_CRC_RECV` (42_decoder.md R178). -/
  | rxCrcRecvRd
  /-- RX_GAP_RD. Read of `RX_GAP` (43_control.md R200). -/
  | rxGapRd
  /-- RX_GAP_WR. Write of `RX_GAP` (43_control.md R201). -/
  | rxGapWr (data : Word)
  /-- TX_POS_RD. Read of `TX_POS` (41_encoder.md R147). -/
  | txPosRd
  /-- TX_COUNT_WR. Write of the read-only `TX_COUNT` (20_memory.md R63). -/
  | txCountWr (data : Word)
  /-- TX_LAST_CRC_WR. Write of the read-only `TX_LAST_CRC` (20_memory.md R63). -/
  | txLastCrcWr (data : Word)
  /-- TX_LAST_LEN_WR. Write of the read-only `TX_LAST_LEN` (20_memory.md R63). -/
  | txLastLenWr (data : Word)
  /-- RX_COUNT_WR. Write of the read-only `RX_COUNT` (20_memory.md R63). -/
  | rxCountWr (data : Word)
  /-- RX_CRC_CALC_WR. Write of the read-only `RX_CRC_CALC` (20_memory.md R63). -/
  | rxCrcCalcWr (data : Word)
  /-- RX_CRC_RECV_WR. Write of the read-only `RX_CRC_RECV` (20_memory.md R63). -/
  | rxCrcRecvWr (data : Word)
  /-- TX_POS_WR. Write of the read-only `TX_POS` (20_memory.md R63). -/
  | txPosWr (data : Word)
  /-- RXBUF_RD_0. Read of `RXBUF[i]`, `i` from 0 to 255 (42_decoder.md R177). -/
  | rxbufRd0 (i : Nat)
  /-- RXBUF_WR_0. Write of the read-only `RXBUF[i]`, `i` from 0 to 255 (20_memory.md R63). -/
  | rxbufWr0 (i : Nat) (data : Word)
  /-- RXBUF_RD_1. Read of `RXBUF[i]`, `i` from 256 to 259 (42_decoder.md R177). -/
  | rxbufRd1 (i : Nat)
  /-- RXBUF_WR_1. Write of the read-only `RXBUF[i]`, `i` from 256 to 259 (20_memory.md R63). -/
  | rxbufWr1 (i : Nat) (data : Word)
  /-- RXBUF_RD_2. Read of `RXBUF[i]`, `i` 260 or 261 (42_decoder.md R177). -/
  | rxbufRd2 (i : Nat)
  /-- RXBUF_WR_2. Write of the read-only `RXBUF[i]`, `i` 260 or 261 (20_memory.md R63). -/
  | rxbufWr2 (i : Nat) (data : Word)
  /-- BUS_ERROR. An access that is misaligned, unmapped or not 32 bits wide (20_memory.md R61, R62). -/
  | busError (a : BadAccess)
  /-- TXE_SEND. Event KIND 0, the transmit engine sends its next character (41_encoder.md R142); `B` is ignored. -/
  | txeSend (ignored : Byte)
  /-- RXE_CHAR. Event KIND 1, `LineIn(b, true)` (42_decoder.md R160, R161). -/
  | rxeChar (b : Byte)
  /-- RXE_CHAR_FERR. Event KIND 2, `LineIn(b, false)` (42_decoder.md R160, R161). -/
  | rxeCharFerr (b : Byte)
  /-- RXE_GAP. Event KIND 3, `LineGap` (42_decoder.md R162); `B` is ignored. -/
  | rxeGap (ignored : Byte)
  /-- CMD_ACK. The ACK command frame (44_protocol_commands.md R220). -/
  | cmdAck (payload : List Byte)
  /-- CMD_NAK. The NAK command frame (44_protocol_commands.md R221). -/
  | cmdNak (payload : List Byte)
  /-- CMD_POLL. The POLL command frame (44_protocol_commands.md R222). -/
  | cmdPoll (payload : List Byte)
  /-- CMD_RESET. The RESET command frame (44_protocol_commands.md R223); it resets the peer, not the block. -/
  | cmdReset (payload : List Byte)
  /-- CMD_GET_STATUS. The GET_STATUS command frame (44_protocol_commands.md R224). -/
  | cmdGetStatus (payload : List Byte)
  /-- CMD_SET_SECURITY. The SET_SECURITY command frame (44_protocol_commands.md R225). -/
  | cmdSetSecurity (payload : List Byte)
  /-- CMD_ENABLE_BILL_TYPES. The ENABLE_BILL_TYPES command frame (44_protocol_commands.md R226). -/
  | cmdEnableBillTypes (payload : List Byte)
  /-- CMD_STACK. The STACK command frame (44_protocol_commands.md R227). -/
  | cmdStack (payload : List Byte)
  /-- CMD_RETURN. The RETURN command frame (44_protocol_commands.md R228). -/
  | cmdReturn (payload : List Byte)
  /-- CMD_IDENTIFICATION. The IDENTIFICATION command frame (44_protocol_commands.md R229). -/
  | cmdIdentification (payload : List Byte)
  /-- CMD_HOLD. The HOLD command frame (44_protocol_commands.md R230). -/
  | cmdHold (payload : List Byte)
  deriving DecidableEq, Repr

end Sys2Proof
end

