-- ==== Sys2Proof/Machine/Window.lean ====
section
/-! DEFINITION. The register window: the transaction word's fields (30_encoding.md R81), the event word's fields (R82)
and the register map (10_state.md R24). -/

namespace Sys2Proof.Machine

open Sys2Proof.Config

/-- The registers of the map, 10_state.md R24; `rxbuf i` is `RXBUF[i]`. -/
inductive Reg where
  | ctrl
  | status
  | ie
  | err
  | crcAcc
  | crcData
  | txCmd
  | txData
  | txGo
  | txCount
  | txLastCrc
  | txLastLen
  | rxCtrl
  | rxCount
  | rxCrcCalc
  | rxCrcRecv
  | rxGap
  | txPos
  | rxbuf (i : Nat)
  deriving DecidableEq, Repr

/-- First offset of the `RXBUF` window (10_state.md R24). -/
abbrev rxbufBase : Nat := 0x400

/-- The offset of a register (10_state.md R24). -/
def regOffset : Reg → Offset
  | .ctrl => 0x000#12
  | .status => 0x004#12
  | .ie => 0x008#12
  | .err => 0x00C#12
  | .crcAcc => 0x010#12
  | .crcData => 0x014#12
  | .txCmd => 0x018#12
  | .txData => 0x01C#12
  | .txGo => 0x020#12
  | .txCount => 0x024#12
  | .txLastCrc => 0x028#12
  | .txLastLen => 0x02C#12
  | .rxCtrl => 0x030#12
  | .rxCount => 0x034#12
  | .rxCrcCalc => 0x038#12
  | .rxCrcRecv => 0x03C#12
  | .rxGap => 0x040#12
  | .txPos => 0x044#12
  | .rxbuf i => BitVec.ofNat 12 (rxbufBase + 4 * i)

/-- Whether an offset is one of `RXBUF[i]` (10_state.md R24, 42_decoder.md R177). -/
def inRxbuf (off : Offset) : Bool :=
  decide (rxbufBase ≤ off.toNat) && decide (off.toNat < rxbufBase + 4 * rxbufSize) && decide (off.toNat % 4 = 0)

/-- The register at an offset; none where the offset names none, misaligned offsets among them
(10_state.md R24, 20_memory.md R61, R62). -/
def regAt (off : Offset) : Option Reg :=
  if off = 0x000#12 then some .ctrl
  else if off = 0x004#12 then some .status
  else if off = 0x008#12 then some .ie
  else if off = 0x00C#12 then some .err
  else if off = 0x010#12 then some .crcAcc
  else if off = 0x014#12 then some .crcData
  else if off = 0x018#12 then some .txCmd
  else if off = 0x01C#12 then some .txData
  else if off = 0x020#12 then some .txGo
  else if off = 0x024#12 then some .txCount
  else if off = 0x028#12 then some .txLastCrc
  else if off = 0x02C#12 then some .txLastLen
  else if off = 0x030#12 then some .rxCtrl
  else if off = 0x034#12 then some .rxCount
  else if off = 0x038#12 then some .rxCrcCalc
  else if off = 0x03C#12 then some .rxCrcRecv
  else if off = 0x040#12 then some .rxGap
  else if off = 0x044#12 then some .txPos
  else if inRxbuf off then some (.rxbuf ((off.toNat - rxbufBase) / 4))
  else none

/-- The transaction word of its fields `W`, `OFF`, `DATA` (30_encoding.md R81). -/
def busWord (write : Bool) (off : Offset) (data : Word) : BitVec 45 := BitVec.ofBool write ++ off ++ data

/-- `T[44]`, 1 for a write (30_encoding.md R81). -/
def busWrite (t : BitVec 45) : Bool := t.getLsbD 44

/-- `T[43:32]` (30_encoding.md R81). -/
def busOff (t : BitVec 45) : Offset := t.extractLsb' 32 12

/-- `T[31:0]` (30_encoding.md R81). -/
def busData (t : BitVec 45) : Word := t.extractLsb' 0 32

/-- The event word of its fields `KIND`, `B` (30_encoding.md R82). -/
def eventWord (kind : BitVec 2) (b : Byte) : BitVec 10 := kind ++ b

/-- `E[9:8]` (30_encoding.md R82). -/
def eventKind (e : BitVec 10) : BitVec 2 := e.extractLsb' 8 2

/-- `E[7:0]` (30_encoding.md R82). -/
def eventByte (e : BitVec 10) : Byte := e.extractLsb' 0 8

/-- `OP = DATA[3:0]` of a `TX_GO` write (30_encoding.md R83). -/
def goOp (data : Word) : BitVec 4 := data.extractLsb' 0 4

/-- `DATA[31]` of a `CTRL` write, `SRST` (10_state.md R24). -/
def srstBit (data : Word) : Bool := data.getLsbD 31

/-- `DATA[0]` of an `RX_CTRL` write, `RELEASE` (10_state.md R24). -/
def releaseBit (data : Word) : Bool := data.getLsbD 0

/-- The offset a refused access carries (20_memory.md R61, R62: `BusError(off)`). -/
def badOffset : BadAccess → Offset
  | .word t => busOff t
  | .width _ _ off => off

/-- A host's access as a raw input: `bytes` wide at bus address `a` (20_memory.md R60, 00_scope.md R12 `MemRead` and
`MemWrite`). None where the address is outside the block's window. The data of a read is 0 (30_encoding.md R81).
DESIGN CHOICE, log 14. -/
def hostAccess (write : Bool) (a bytes : Nat) (data : Word) : Option Raw :=
  if base ≤ a ∧ a < base + windowSize then
    let off := BitVec.ofNat 12 (a - base)
    if bytes = 4 then some (.bus (busWord write off (if write then data else 0#32)))
    else if bytes = 1 then some (.odd .byte write off)
    else if bytes = 2 then some (.odd .half write off)
    else some (.odd .wide write off)
  else none

end Sys2Proof.Machine
end

