-- ==== Sys2Proof/Decode.lean ====
section
/-! DEFINITION. The decoder (total on every raw input; rejecting by name), the encoder, and the host's reading of an
opcode-table word. 30_encoding.md R81 to R83, R86, R91, R94. -/

namespace Sys2Proof

open Sys2Proof.Config Sys2Proof.Machine

/-- Why a byte sequence is no command frame of the opcode table (DESIGN CHOICE, log 11). Only the `frame` format can be
rejected: every transaction word and every event word decodes. -/
inductive DecodeError where
  /-- Fewer than the 6 bytes of the smallest frame (30_encoding.md R89). -/
  | frameTooShort
  /-- More payload than the transmit queue holds (30_encoding.md R95). -/
  | payloadTooLong
  /-- The first byte is not SYNC (30_encoding.md R86). -/
  | badSync
  /-- The second byte is not ADDR (30_encoding.md R86). -/
  | badAddr
  /-- The LEN byte is not `len_byte` of the payload length (30_encoding.md R87). -/
  | badLen
  /-- The last two bytes are not the checksum of the rest (30_encoding.md R86). -/
  | badChecksum
  /-- The command code is none of 30_encoding.md R91 (44_protocol_commands.md R232). -/
  | unlistedCommand
  deriving DecidableEq, Repr

/-- The decoder's answer: an instruction, or a rejection by name. -/
inductive Decoded where
  | instr (i : Instr)
  | rejected (e : DecodeError)
  deriving DecidableEq, Repr

/-- A write of `CTRL` (43_control.md R193, 70_reset_and_hazards.md R271). -/
def decodeCtrlWrite (data : Word) : Instr := if srstBit data then .ctrlSrst data else .ctrlWr data

/-- A write of `TX_GO` (30_encoding.md R83, 41_encoder.md R134). -/
def decodeGo (data : Word) : Instr :=
  if goOp data = 0x0#4 then .goNop data
  else if goOp data = 0x1#4 then .goEncode data
  else if goOp data = 0x2#4 then .goAck data
  else if goOp data = 0x3#4 then .goNak data
  else if goOp data = 0x4#4 then .goFlush data
  else if goOp data = 0x5#4 then .goRsvd5 data
  else if goOp data = 0x6#4 then .goRsvd67 data
  else if goOp data = 0x7#4 then .goRsvd67 data
  else .goRsvd8F data

/-- A write of `RX_CTRL` (42_decoder.md R176, R179). -/
def decodeRxCtrlWrite (data : Word) : Instr := if releaseBit data then .rxRelease data else .rxCtrlNop data

/-- A read of `RXBUF[i]`, by the three index ranges of the opcode table (42_decoder.md R177). -/
def decodeRxbufRead (i : Nat) : Instr :=
  if i < 256 then .rxbufRd0 i else if i < 260 then .rxbufRd1 i else .rxbufRd2 i

/-- A write of `RXBUF[i]`, by the three index ranges of the opcode table (20_memory.md R63). -/
def decodeRxbufWrite (i : Nat) (data : Word) : Instr :=
  if i < 256 then .rxbufWr0 i data else if i < 260 then .rxbufWr1 i data else .rxbufWr2 i data

/-- The read of a register (30_encoding.md R81, `W = 0`). -/
def decodeRead : Reg → Instr
  | .ctrl => .ctrlRd
  | .status => .statusRd
  | .ie => .ieRd
  | .err => .errRd
  | .crcAcc => .crcAccRd
  | .crcData => .crcDataRd
  | .txCmd => .txCmdRd
  | .txData => .txDataRd
  | .txGo => .txGoRd
  | .txCount => .txCountRd
  | .txLastCrc => .txLastCrcRd
  | .txLastLen => .txLastLenRd
  | .rxCtrl => .rxCtrlRd
  | .rxCount => .rxCountRd
  | .rxCrcCalc => .rxCrcCalcRd
  | .rxCrcRecv => .rxCrcRecvRd
  | .rxGap => .rxGapRd
  | .txPos => .txPosRd
  | .rxbuf i => decodeRxbufRead i

/-- The write of a register (30_encoding.md R81, `W = 1`). -/
def decodeWrite (data : Word) : Reg → Instr
  | .ctrl => decodeCtrlWrite data
  | .status => .statusWr data
  | .ie => .ieWr data
  | .err => .errWr data
  | .crcAcc => .crcAccWr data
  | .crcData => .crcDataWr data
  | .txCmd => .txCmdWr data
  | .txData => .txDataWr data
  | .txGo => decodeGo data
  | .txCount => .txCountWr data
  | .txLastCrc => .txLastCrcWr data
  | .txLastLen => .txLastLenWr data
  | .rxCtrl => decodeRxCtrlWrite data
  | .rxCount => .rxCountWr data
  | .rxCrcCalc => .rxCrcCalcWr data
  | .rxCrcRecv => .rxCrcRecvWr data
  | .rxGap => .rxGapWr data
  | .txPos => .txPosWr data
  | .rxbuf i => decodeRxbufWrite i data

/-- A transaction word (30_encoding.md R81): `OFF` selects the register, `W` its read or write rule, and for `CTRL`,
`TX_GO` and `RX_CTRL` writes bits of `DATA` the operation. An `OFF` with no register is `BUS_ERROR` (20_memory.md R61,
R62). The data of a read is ignored, as the table's masks have it (DEDUCED, log 8). -/
def decodeBus (t : BitVec 45) : Instr :=
  match regAt (busOff t) with
  | none => .busError (.word t)
  | some r => if busWrite t then decodeWrite (busData t) r else decodeRead r

/-- An event word (30_encoding.md R82). -/
def decodeEvent (e : BitVec 10) : Instr :=
  if eventKind e = 0#2 then .txeSend (eventByte e)
  else if eventKind e = 1#2 then .rxeChar (eventByte e)
  else if eventKind e = 2#2 then .rxeCharFerr (eventByte e)
  else .rxeGap (eventByte e)

/-- The command of a code (30_encoding.md R91). -/
def commandOf (cmd : Byte) (payload : List Byte) : Option Instr :=
  if cmd = codeAck then some (.cmdAck payload)
  else if cmd = codeNak then some (.cmdNak payload)
  else if cmd = codePoll then some (.cmdPoll payload)
  else if cmd = codeReset then some (.cmdReset payload)
  else if cmd = codeGetStatus then some (.cmdGetStatus payload)
  else if cmd = codeSetSecurity then some (.cmdSetSecurity payload)
  else if cmd = codeEnableBillTypes then some (.cmdEnableBillTypes payload)
  else if cmd = codeStack then some (.cmdStack payload)
  else if cmd = codeReturn then some (.cmdReturn payload)
  else if cmd = codeIdentification then some (.cmdIdentification payload)
  else if cmd = codeHold then some (.cmdHold payload)
  else none

/-- A command frame (30_encoding.md R86): every byte is checked against the frame the encoder builds. -/
def decodeFrame (bytes : List Byte) : Decoded :=
  match bytes with
  | s :: a :: l :: cmd :: rest =>
      let payload := rest.take (rest.length - 2)
      if rest.length < 2 then .rejected .frameTooShort
      else if txqDepth < payload.length then .rejected .payloadTooLong
      else if s ≠ sync then .rejected .badSync
      else if a ≠ addr then .rejected .badAddr
      else if l ≠ lenByte payload.length then .rejected .badLen
      else if bytes ≠ buildFrame cmd payload then .rejected .badChecksum
      else match commandOf cmd payload with
        | some i => .instr i
        | none => .rejected .unlistedCommand
  | _ => .rejected .frameTooShort

/-- The decoder. -/
def decode : Raw → Decoded
  | .bus t => .instr (decodeBus t)
  | .odd w write off => .instr (.busError (.width w write off))
  | .event e => .instr (decodeEvent e)
  | .frame bytes => decodeFrame bytes

/-- The transaction word of a register's read (30_encoding.md R81: the data of a read is 0). -/
def readWord (r : Reg) : Raw := .bus (busWord false (regOffset r) 0#32)

/-- The transaction word of a register's write (30_encoding.md R81). -/
def writeWord (r : Reg) (data : Word) : Raw := .bus (busWord true (regOffset r) data)

/-- The encoder: the raw input of an instruction, from the same tables. -/
def encode : Instr → Raw
  | .ctrlRd => readWord .ctrl
  | .ctrlWr data => writeWord .ctrl data
  | .ctrlSrst data => writeWord .ctrl data
  | .statusRd => readWord .status
  | .statusWr data => writeWord .status data
  | .ieRd => readWord .ie
  | .ieWr data => writeWord .ie data
  | .errRd => readWord .err
  | .errWr data => writeWord .err data
  | .crcAccRd => readWord .crcAcc
  | .crcAccWr data => writeWord .crcAcc data
  | .crcDataRd => readWord .crcData
  | .crcDataWr data => writeWord .crcData data
  | .txCmdRd => readWord .txCmd
  | .txCmdWr data => writeWord .txCmd data
  | .txDataRd => readWord .txData
  | .txDataWr data => writeWord .txData data
  | .txGoRd => readWord .txGo
  | .goNop data => writeWord .txGo data
  | .goEncode data => writeWord .txGo data
  | .goAck data => writeWord .txGo data
  | .goNak data => writeWord .txGo data
  | .goFlush data => writeWord .txGo data
  | .goRsvd5 data => writeWord .txGo data
  | .goRsvd67 data => writeWord .txGo data
  | .goRsvd8F data => writeWord .txGo data
  | .txCountRd => readWord .txCount
  | .txLastCrcRd => readWord .txLastCrc
  | .txLastLenRd => readWord .txLastLen
  | .rxCtrlRd => readWord .rxCtrl
  | .rxCtrlNop data => writeWord .rxCtrl data
  | .rxRelease data => writeWord .rxCtrl data
  | .rxCountRd => readWord .rxCount
  | .rxCrcCalcRd => readWord .rxCrcCalc
  | .rxCrcRecvRd => readWord .rxCrcRecv
  | .rxGapRd => readWord .rxGap
  | .rxGapWr data => writeWord .rxGap data
  | .txPosRd => readWord .txPos
  | .txCountWr data => writeWord .txCount data
  | .txLastCrcWr data => writeWord .txLastCrc data
  | .txLastLenWr data => writeWord .txLastLen data
  | .rxCountWr data => writeWord .rxCount data
  | .rxCrcCalcWr data => writeWord .rxCrcCalc data
  | .rxCrcRecvWr data => writeWord .rxCrcRecv data
  | .txPosWr data => writeWord .txPos data
  | .rxbufRd0 i => readWord (.rxbuf i)
  | .rxbufWr0 i data => writeWord (.rxbuf i) data
  | .rxbufRd1 i => readWord (.rxbuf i)
  | .rxbufWr1 i data => writeWord (.rxbuf i) data
  | .rxbufRd2 i => readWord (.rxbuf i)
  | .rxbufWr2 i data => writeWord (.rxbuf i) data
  | .busError (.word t) => .bus t
  | .busError (.width w write off) => .odd w write off
  | .txeSend b => .event (eventWord 0#2 b)
  | .rxeChar b => .event (eventWord 1#2 b)
  | .rxeCharFerr b => .event (eventWord 2#2 b)
  | .rxeGap b => .event (eventWord 3#2 b)
  | .cmdAck payload => .frame (buildFrame codeAck payload)
  | .cmdNak payload => .frame (buildFrame codeNak payload)
  | .cmdPoll payload => .frame (buildFrame codePoll payload)
  | .cmdReset payload => .frame (buildFrame codeReset payload)
  | .cmdGetStatus payload => .frame (buildFrame codeGetStatus payload)
  | .cmdSetSecurity payload => .frame (buildFrame codeSetSecurity payload)
  | .cmdEnableBillTypes payload => .frame (buildFrame codeEnableBillTypes payload)
  | .cmdStack payload => .frame (buildFrame codeStack payload)
  | .cmdReturn payload => .frame (buildFrame codeReturn payload)
  | .cmdIdentification payload => .frame (buildFrame codeIdentification payload)
  | .cmdHold payload => .frame (buildFrame codeHold payload)

/-- A row of the opcode table: the value of the bits its mask selects. -/
structure Row where
  mask : Nat
  value : Nat
  deriving DecidableEq, Repr

/-- The opcode table's `mask` and `match` of an instruction, as spec/opcode_table.json prints them: of its transaction
word or event word; of frame byte 3, CMD, for a command frame. `BUS_ERROR` has none. -/
def tableRow : Instr → Option Row
  | .ctrlRd => some ⟨0x1FFF00000000, 0x000000000000⟩
  | .ctrlWr _ => some ⟨0x1FFF80000000, 0x100000000000⟩
  | .ctrlSrst _ => some ⟨0x1FFF80000000, 0x100080000000⟩
  | .statusRd => some ⟨0x1FFF00000000, 0x000400000000⟩
  | .statusWr _ => some ⟨0x1FFF00000000, 0x100400000000⟩
  | .ieRd => some ⟨0x1FFF00000000, 0x000800000000⟩
  | .ieWr _ => some ⟨0x1FFF00000000, 0x100800000000⟩
  | .errRd => some ⟨0x1FFF00000000, 0x000C00000000⟩
  | .errWr _ => some ⟨0x1FFF00000000, 0x100C00000000⟩
  | .crcAccRd => some ⟨0x1FFF00000000, 0x001000000000⟩
  | .crcAccWr _ => some ⟨0x1FFF00000000, 0x101000000000⟩
  | .crcDataRd => some ⟨0x1FFF00000000, 0x001400000000⟩
  | .crcDataWr _ => some ⟨0x1FFF00000000, 0x101400000000⟩
  | .txCmdRd => some ⟨0x1FFF00000000, 0x001800000000⟩
  | .txCmdWr _ => some ⟨0x1FFF00000000, 0x101800000000⟩
  | .txDataRd => some ⟨0x1FFF00000000, 0x001C00000000⟩
  | .txDataWr _ => some ⟨0x1FFF00000000, 0x101C00000000⟩
  | .txGoRd => some ⟨0x1FFF00000000, 0x002000000000⟩
  | .goNop _ => some ⟨0x1FFF0000000F, 0x102000000000⟩
  | .goEncode _ => some ⟨0x1FFF0000000F, 0x102000000001⟩
  | .goAck _ => some ⟨0x1FFF0000000F, 0x102000000002⟩
  | .goNak _ => some ⟨0x1FFF0000000F, 0x102000000003⟩
  | .goFlush _ => some ⟨0x1FFF0000000F, 0x102000000004⟩
  | .goRsvd5 _ => some ⟨0x1FFF0000000F, 0x102000000005⟩
  | .goRsvd67 _ => some ⟨0x1FFF0000000E, 0x102000000006⟩
  | .goRsvd8F _ => some ⟨0x1FFF00000008, 0x102000000008⟩
  | .txCountRd => some ⟨0x1FFF00000000, 0x002400000000⟩
  | .txLastCrcRd => some ⟨0x1FFF00000000, 0x002800000000⟩
  | .txLastLenRd => some ⟨0x1FFF00000000, 0x002C00000000⟩
  | .rxCtrlRd => some ⟨0x1FFF00000000, 0x003000000000⟩
  | .rxCtrlNop _ => some ⟨0x1FFF00000001, 0x103000000000⟩
  | .rxRelease _ => some ⟨0x1FFF00000001, 0x103000000001⟩
  | .rxCountRd => some ⟨0x1FFF00000000, 0x003400000000⟩
  | .rxCrcCalcRd => some ⟨0x1FFF00000000, 0x003800000000⟩
  | .rxCrcRecvRd => some ⟨0x1FFF00000000, 0x003C00000000⟩
  | .rxGapRd => some ⟨0x1FFF00000000, 0x004000000000⟩
  | .rxGapWr _ => some ⟨0x1FFF00000000, 0x104000000000⟩
  | .txPosRd => some ⟨0x1FFF00000000, 0x004400000000⟩
  | .txCountWr _ => some ⟨0x1FFF00000000, 0x102400000000⟩
  | .txLastCrcWr _ => some ⟨0x1FFF00000000, 0x102800000000⟩
  | .txLastLenWr _ => some ⟨0x1FFF00000000, 0x102C00000000⟩
  | .rxCountWr _ => some ⟨0x1FFF00000000, 0x103400000000⟩
  | .rxCrcCalcWr _ => some ⟨0x1FFF00000000, 0x103800000000⟩
  | .rxCrcRecvWr _ => some ⟨0x1FFF00000000, 0x103C00000000⟩
  | .txPosWr _ => some ⟨0x1FFF00000000, 0x104400000000⟩
  | .rxbufRd0 _ => some ⟨0x1C0300000000, 0x040000000000⟩
  | .rxbufWr0 _ _ => some ⟨0x1C0300000000, 0x140000000000⟩
  | .rxbufRd1 _ => some ⟨0x1FF300000000, 0x080000000000⟩
  | .rxbufWr1 _ _ => some ⟨0x1FF300000000, 0x180000000000⟩
  | .rxbufRd2 _ => some ⟨0x1FFB00000000, 0x081000000000⟩
  | .rxbufWr2 _ _ => some ⟨0x1FFB00000000, 0x181000000000⟩
  | .busError _ => none
  | .txeSend _ => some ⟨0x300, 0x000⟩
  | .rxeChar _ => some ⟨0x300, 0x100⟩
  | .rxeCharFerr _ => some ⟨0x300, 0x200⟩
  | .rxeGap _ => some ⟨0x300, 0x300⟩
  | .cmdAck _ => some ⟨0xFF, 0x00⟩
  | .cmdNak _ => some ⟨0xFF, 0xFF⟩
  | .cmdPoll _ => some ⟨0xFF, 0x33⟩
  | .cmdReset _ => some ⟨0xFF, 0x30⟩
  | .cmdGetStatus _ => some ⟨0xFF, 0x31⟩
  | .cmdSetSecurity _ => some ⟨0xFF, 0x32⟩
  | .cmdEnableBillTypes _ => some ⟨0xFF, 0x34⟩
  | .cmdStack _ => some ⟨0xFF, 0x35⟩
  | .cmdReturn _ => some ⟨0xFF, 0x36⟩
  | .cmdIdentification _ => some ⟨0xFF, 0x37⟩
  | .cmdHold _ => some ⟨0xFF, 0x38⟩

/-- Whether a number has a row's bits. -/
def Row.holds (r : Row) (w : Nat) : Bool := w &&& r.mask == r.value

/-- The rows of the 45-bit `bus` format, in the table's order, `BUS_ERROR` apart. -/
def busRows : List Row :=
  [⟨0x1FFF00000000, 0x000000000000⟩,
   ⟨0x1FFF80000000, 0x100000000000⟩,
   ⟨0x1FFF80000000, 0x100080000000⟩,
   ⟨0x1FFF00000000, 0x000400000000⟩,
   ⟨0x1FFF00000000, 0x100400000000⟩,
   ⟨0x1FFF00000000, 0x000800000000⟩,
   ⟨0x1FFF00000000, 0x100800000000⟩,
   ⟨0x1FFF00000000, 0x000C00000000⟩,
   ⟨0x1FFF00000000, 0x100C00000000⟩,
   ⟨0x1FFF00000000, 0x001000000000⟩,
   ⟨0x1FFF00000000, 0x101000000000⟩,
   ⟨0x1FFF00000000, 0x001400000000⟩,
   ⟨0x1FFF00000000, 0x101400000000⟩,
   ⟨0x1FFF00000000, 0x001800000000⟩,
   ⟨0x1FFF00000000, 0x101800000000⟩,
   ⟨0x1FFF00000000, 0x001C00000000⟩,
   ⟨0x1FFF00000000, 0x101C00000000⟩] ++
  [⟨0x1FFF00000000, 0x002000000000⟩,
   ⟨0x1FFF0000000F, 0x102000000000⟩,
   ⟨0x1FFF0000000F, 0x102000000001⟩,
   ⟨0x1FFF0000000F, 0x102000000002⟩,
   ⟨0x1FFF0000000F, 0x102000000003⟩,
   ⟨0x1FFF0000000F, 0x102000000004⟩,
   ⟨0x1FFF0000000F, 0x102000000005⟩,
   ⟨0x1FFF0000000E, 0x102000000006⟩,
   ⟨0x1FFF00000008, 0x102000000008⟩,
   ⟨0x1FFF00000000, 0x002400000000⟩,
   ⟨0x1FFF00000000, 0x002800000000⟩,
   ⟨0x1FFF00000000, 0x002C00000000⟩,
   ⟨0x1FFF00000000, 0x003000000000⟩,
   ⟨0x1FFF00000001, 0x103000000000⟩,
   ⟨0x1FFF00000001, 0x103000000001⟩,
   ⟨0x1FFF00000000, 0x003400000000⟩,
   ⟨0x1FFF00000000, 0x003800000000⟩] ++
  [⟨0x1FFF00000000, 0x003C00000000⟩,
   ⟨0x1FFF00000000, 0x004000000000⟩,
   ⟨0x1FFF00000000, 0x104000000000⟩,
   ⟨0x1FFF00000000, 0x004400000000⟩,
   ⟨0x1FFF00000000, 0x102400000000⟩,
   ⟨0x1FFF00000000, 0x102800000000⟩,
   ⟨0x1FFF00000000, 0x102C00000000⟩,
   ⟨0x1FFF00000000, 0x103400000000⟩,
   ⟨0x1FFF00000000, 0x103800000000⟩,
   ⟨0x1FFF00000000, 0x103C00000000⟩,
   ⟨0x1FFF00000000, 0x104400000000⟩,
   ⟨0x1C0300000000, 0x040000000000⟩,
   ⟨0x1C0300000000, 0x140000000000⟩,
   ⟨0x1FF300000000, 0x080000000000⟩,
   ⟨0x1FF300000000, 0x180000000000⟩,
   ⟨0x1FFB00000000, 0x081000000000⟩,
   ⟨0x1FFB00000000, 0x181000000000⟩]

/-- The number the opcode table's masks apply to: the word, or CMD, byte 3 of a frame. -/
def tableNumber : Raw → Option Nat
  | .bus t => some t.toNat
  | .event e => some e.toNat
  | .odd _ _ _ => none
  | .frame bytes => (bytes[3]?).map BitVec.toNat

/-- Operand bytes of zeros for a command whose payload length the spec fixes: three for SET_SECURITY
(44_protocol_commands.md R225), none for the others. -/
def zeroPayload (cmd : Byte) : List Byte := if cmd = codeSetSecurity then [0#8, 0#8, 0#8] else []

/-- The raw input of an opcode-table word of `nbits` bits in whole bytes (DESIGN CHOICE, log 12): 8 bits are a command
frame's CMD byte, 16 an event word, more a transaction word. -/
def rawOfTable (nbits w : Nat) : Raw :=
  if nbits ≤ 8 then .frame (buildFrame (BitVec.ofNat 8 w) (zeroPayload (BitVec.ofNat 8 w)))
  else if nbits ≤ 16 then .event (BitVec.ofNat 10 w)
  else .bus (BitVec.ofNat 45 w)

/-- What the decoder reads from an opcode-table word; none where it rejects. -/
def decodeTableWord (nbits w : Nat) : Option Instr :=
  match decode (rawOfTable nbits w) with
  | .instr i => some i
  | .rejected _ => none

end Sys2Proof
end

