-- ==== Sys2Proof/Machine/State.lean ====
section
/-! DEFINITION. The block's state (10_state.md R22), the reasons a step can stop, and the state at the start of a run. -/

namespace Sys2Proof.Machine

open Sys2Proof.Config

/-- The transmit engine's state (10_state.md R22). -/
inductive TxState where
  | idle
  | sending
  deriving DecidableEq, Repr

/-- The receive engine's state (10_state.md R22). -/
inductive RxState where
  | idle
  | collecting
  | ready
  deriving DecidableEq, Repr

/-- How the last bus access ended (00_scope.md R12): no access yet, a read's value, a write completed, or an error
response with its offset. -/
inductive BusResponse where
  | none
  | data (v : Word)
  | done
  | error (off : Offset)
  deriving DecidableEq, Repr

/-- Why the machine stops with a fault. -/
inductive Fault where
  /-- TXE_SEND while `Sending` at a position that is no index of the latched frame. Raised by `State.sendChar` only.
  The spec's invariants rule such a state out (10_state.md R22), so no run meets it; safe (DEDUCED, log 7). -/
  | txPosPastFrame
  deriving DecidableEq, Repr

/-- Why a step is refused. -/
inductive Refusal where
  /-- An instruction without a meaning; no arm of `exec` answers it. Safe. -/
  | notModelled (mnemonic : String)
  /-- A bus access or command frame while the reset input is asserted, which 70_reset_and_hazards.md R270 says a model
  refuses. Raised by `turn`; safe (DESIGN CHOICE, log 5). -/
  | accessInReset
  /-- A byte sequence given as a command frame that is none of the opcode table's. Raised by `turn` on the decoder's
  rejection; safe (DESIGN CHOICE, log 11). -/
  | badFrame (e : DecodeError)
  deriving DecidableEq, Repr

end Sys2Proof.Machine

namespace Sys2Proof.Machine

open Sys2Proof.Config

/-- The whole state. The first eighteen fields are the record of 10_state.md R22, in its order; then the reset input,
the bus response and the serial output, which the spec names outside that record; then the model's own list of inputs
still to come. -/
structure State where
  /-- `rx_en`, receiver enable, `CTRL.RX_EN`. -/
  rxEn : Bool
  /-- `baud_sel`, line rate, `CTRL.BAUD_SEL`. -/
  baudSel : Bool
  /-- `ie`: bit 0 TX_DONE_IE, bit 1 RX_READY_IE, bit 2 ERR_IE. -/
  ie : BitVec 3
  /-- `err`: bit 0 TX_OVF, bit 1 TX_BUSYERR, bit 2 TX_OPERR, bit 3 RX_OVF, bit 4 RX_FERR; sticky. -/
  err : BitVec 5
  /-- `tx_done`, sticky "frame fully sent". -/
  txDone : Bool
  /-- `crc_acc`, the standalone CRC accumulator. -/
  crcAcc : Half
  /-- `tx_cmd`, command byte for the next ENCODE. -/
  txCmd : Byte
  /-- `txq`, the transmit payload queue, first byte first. -/
  txq : List Byte
  /-- `tx_state`. -/
  txState : TxState
  /-- `tx_frame`, the latched frame being sent. -/
  txFrame : List Byte
  /-- `tx_pos`, index of the next byte of `tx_frame` to send. -/
  txPos : Nat
  /-- `tx_last_crc`, CRC of the most recently latched frame. -/
  txLastCrc : Half
  /-- `tx_last_len`, LEN byte of the most recently latched frame. -/
  txLastLen : Byte
  /-- `tx_last_total`, byte count of the most recently latched frame. -/
  txLastTotal : BitVec 16
  /-- `rx_state`. -/
  rxState : RxState
  /-- `rxbuf`, bytes of the current received frame, first byte first. -/
  rxbuf : List Byte
  /-- `rx_gap`, idle gap that closes a frame, bit times. -/
  rxGap : Byte
  /-- `faulted`, model only: set by `raise Fault`, never cleared within a run (60_exceptions.md R247). -/
  faulted : Bool
  /-- The reset input is asserted (70_reset_and_hazards.md R270). -/
  resetIn : Bool
  /-- The response of the last bus access (00_scope.md R12; DESIGN CHOICE, log 3). -/
  busResp : BusResponse
  /-- Every character put on the serial output since the start of the run, oldest first (`LineOut`, 00_scope.md R12;
  DESIGN CHOICE, log 4). -/
  line : List Byte
  /-- The inputs still to come, in the order they take effect (the model's own field; DESIGN
  CHOICE, log 1). -/
  pending : List Input
  deriving DecidableEq, Repr

/-- The state right after reset at the start of a run: the reset column of 10_state.md R22 with `faulted = 0`, the
reset input released, no access answered, nothing sent, nothing to come. -/
def State.reset : State where
  rxEn := false
  baudSel := false
  ie := 0#3
  err := 0#5
  txDone := false
  crcAcc := 0x0000#16
  txCmd := 0x00#8
  txq := []
  txState := .idle
  txFrame := []
  txPos := 0
  txLastCrc := 0x0000#16
  txLastLen := 0x00#8
  txLastTotal := 0#16
  rxState := .idle
  rxbuf := []
  rxGap := rxGapReset
  faulted := false
  resetIn := false
  busResp := .none
  line := []
  pending := []

end Sys2Proof.Machine
end

