-- ==== Sys2Proof/Machine/Uart.lean ====
section
/-! DEFINITION. The UART character (30_encoding.md R84) and its reception (42_decoder.md R165), bit by bit. The
machine's steps move whole characters (00_scope.md R13); these functions tie a character to its bits on the line (log 17). -/

namespace Sys2Proof.Machine

open Sys2Proof.Config

/-- The line's level at mark, which is also its idle level (30_encoding.md R84). -/
def mark : Bool := true

/-- Bits of one character: start bit, 8 data bits, stop bit (30_encoding.md R84). -/
def charBits : Nat := 10

/-- The line levels of one character in time order: start bit 0, data bits least-significant first, stop bit 1
(30_encoding.md R84). -/
def uartChar (b : Byte) : List Bool :=
  [!mark, b.getLsbD 0, b.getLsbD 1, b.getLsbD 2, b.getLsbD 3, b.getLsbD 4, b.getLsbD 5, b.getLsbD 6, b.getLsbD 7, mark]

/-- A byte from its bits, least-significant first. -/
def byteOfBits : List Bool → Byte
  | [] => 0#8
  | x :: xs => (byteOfBits xs <<< 1) ||| (BitVec.ofBool x).zeroExtend 8

/-- The receiver's reading of the ten levels sampled at the middle of the bits: the byte and `stop_ok`, or nothing
where there is no start bit (42_decoder.md R165). -/
def uartSample (levels : List Bool) : Option (Byte × Bool) :=
  match levels with
  | [start, d0, d1, d2, d3, d4, d5, d6, d7, stop] =>
      if start = mark then none else some (byteOfBits [d0, d1, d2, d3, d4, d5, d6, d7], stop)
  | _ => none

/-- Bit times a frame of `n` characters takes back to back (41_encoder.md R142, 70_reset_and_hazards.md R287). -/
def frameBitTimes (n : Nat) : Nat := charBits * n

end Sys2Proof.Machine
end

