-- ==== Sys2Proof/Machine/Flags.lean ====
section
/-! DEFINITION. The derived status (10_state.md R25): validation of the received frame (42_decoder.md R170 to R173),
the error summary, the interrupt level (60_exceptions.md R250), and the levels and times the line settings give
(DESIGN CHOICE, log 17). -/

namespace Sys2Proof.Machine

open Sys2Proof.Config

/-! The bits of `ERR` (10_state.md R24, 60_exceptions.md R240). -/

/-- TX_OVF, a byte pushed to a full queue. -/
def errTxOvf : BitVec 5 := 0b00001#5
/-- TX_BUSYERR, a frame start requested while sending. -/
def errTxBusy : BitVec 5 := 0b00010#5
/-- TX_OPERR, a reserved `TX_GO` operation. -/
def errTxOp : BitVec 5 := 0b00100#5
/-- RX_OVF, a received character dropped. -/
def errRxOvf : BitVec 5 := 0b01000#5
/-- RX_FERR, a received character with stop bit 0. -/
def errRxFerr : BitVec 5 := 0b10000#5

/-- `STATUS.TX_BUSY` (10_state.md R25). -/
def State.txBusy (s : State) : Bool := s.txState == .sending

/-- `STATUS.RX_READY` (10_state.md R25). -/
def State.rxReady (s : State) : Bool := s.rxState == .ready

/-- `STATUS.RX_ACTIVE` (10_state.md R25). -/
def State.rxActive (s : State) : Bool := s.rxState == .collecting

/-- `calc` of a byte list (42_decoder.md R170). -/
def frameCrcCalc (f : List Byte) : Half := if 2 ≤ f.length then crc16 (frameBody f) else 0x0000#16

/-- `recv` of a byte list: its last two bytes, little-endian (42_decoder.md R170). -/
def frameCrcRecv (f : List Byte) : Half :=
  if 2 ≤ f.length then halfOf (f.getD (f.length - 2) 0#8) (f.getD (f.length - 1) 0#8) else 0x0000#16

/-- `crc_ok` of a byte list, BVRS's `validate` (42_decoder.md R170). -/
def frameCrcOk (f : List Byte) : Bool := decide (2 ≤ f.length) && frameCrcCalc f == frameCrcRecv f

/-- First byte is SYNC (42_decoder.md R171). -/
def frameSyncOk (f : List Byte) : Bool := f[0]? == some sync

/-- Second byte is ADDR (42_decoder.md R171). -/
def frameAddrOk (f : List Byte) : Bool := decide (2 ≤ f.length) && f[1]? == some addr

/-- The LEN byte agrees with the byte count (42_decoder.md R172). -/
def frameLenOk (f : List Byte) : Bool :=
  decide (frameOverhead ≤ f.length) &&
    ((decide (f.length ≤ lenLimit) && f[2]? == some (BitVec.ofNat 8 f.length)) ||
     (decide (lenLimit < f.length) && f[2]? == some 0#8))

/-- `RX_CRC_CALC`: 0 unless a frame is `Ready` (42_decoder.md R170, R173). -/
def State.rxCrcCalc (s : State) : Half := if s.rxReady then frameCrcCalc s.rxbuf else 0x0000#16

/-- `RX_CRC_RECV`: 0 unless a frame is `Ready` (42_decoder.md R170, R173). -/
def State.rxCrcRecv (s : State) : Half := if s.rxReady then frameCrcRecv s.rxbuf else 0x0000#16

/-- `STATUS.RX_CRC_OK` (42_decoder.md R170, R173). -/
def State.rxCrcOk (s : State) : Bool := s.rxReady && frameCrcOk s.rxbuf

/-- `STATUS.RX_SYNC_OK` (42_decoder.md R171, R173). -/
def State.rxSyncOk (s : State) : Bool := s.rxReady && frameSyncOk s.rxbuf

/-- `STATUS.RX_ADDR_OK` (42_decoder.md R171, R173). -/
def State.rxAddrOk (s : State) : Bool := s.rxReady && frameAddrOk s.rxbuf

/-- `STATUS.RX_LEN_OK` (42_decoder.md R172, R173). -/
def State.rxLenOk (s : State) : Bool := s.rxReady && frameLenOk s.rxbuf

/-- `STATUS.ERR_ANY` (10_state.md R25). -/
def State.errAny (s : State) : Bool := s.err != 0#5

/-- `IE.TX_DONE_IE` (10_state.md R24). -/
def State.txDoneIe (s : State) : Bool := s.ie.getLsbD 0

/-- `IE.RX_READY_IE` (10_state.md R24). -/
def State.rxReadyIe (s : State) : Bool := s.ie.getLsbD 1

/-- `IE.ERR_IE` (10_state.md R24). -/
def State.errIe (s : State) : Bool := s.ie.getLsbD 2

/-- The interrupt output `irq`, also `STATUS.IRQ` (60_exceptions.md R250). -/
def State.irq (s : State) : Bool := (s.txDone && s.txDoneIe) || (s.rxReady && s.rxReadyIe) || (s.errAny && s.errIe)

/-- The level of the platform's interrupt input `n` as far as this block drives it (60_exceptions.md R250; log 13). -/
def State.platformIrq (s : State) (n : Nat) : Bool := n == irqLine && s.irq

/-- A character is moving on the line, when a rate change is a hazard (43_control.md R193, 70_reset_and_hazards.md
R279). -/
def State.inFlight (s : State) : Bool := s.txBusy || s.rxActive

/-- The serial output idles at mark (10_state.md R22: "whenever `tx_state = Idle`"). -/
def State.outputIdles (s : State) : Bool := s.txState == .idle

/-- Bits per second of both directions (43_control.md R191). -/
def State.bitRate (s : State) : Nat := baudRate s.baudSel

/-- Idle bit times that close a frame, `max(rx_gap, 1)` (42_decoder.md R162, R163). -/
def State.gapInForce (s : State) : Nat := max s.rxGap.toNat 1

/-- The bits of the characters sent so far, without the idle times between frames (30_encoding.md R84). -/
def State.lineBits (s : State) : List Bool := s.line.flatMap uartChar

end Sys2Proof.Machine
end

