-- ==== Sys2Proof/Machine/Operands.lean ====
section
/-! DEFINITION. Operand forms: the fields of a write's data, and the value every register reads (10_state.md R24). -/

namespace Sys2Proof.Machine

open Sys2Proof.Config

/-! Fields of write data; every other bit is ignored (20_memory.md R63). -/

/-- `DATA[7:0]`. -/
def dataByte (d : Word) : Byte := d.extractLsb' 0 8
/-- `DATA[15:0]`. -/
def dataHalf (d : Word) : Half := d.extractLsb' 0 16
/-- `DATA[0]`, `CTRL.RX_EN` (43_control.md R193). -/
def dataRxEn (d : Word) : Bool := d.getLsbD 0
/-- `DATA[1]`, `CTRL.BAUD_SEL` (43_control.md R193). -/
def dataBaudSel (d : Word) : Bool := d.getLsbD 1
/-- `DATA[1]`, `STATUS.TX_DONE`, write 1 to clear (43_control.md R195). -/
def dataTxDone (d : Word) : Bool := d.getLsbD 1
/-- `DATA[2:0]`, `IE` (43_control.md R197). -/
def dataIe (d : Word) : BitVec 3 := d.extractLsb' 0 3
/-- `DATA[4:0]`, the `ERR` bits to clear (43_control.md R199). -/
def dataErr (d : Word) : BitVec 5 := d.extractLsb' 0 5

/-- A bit at a position of a register value. -/
def bitAt (b : Bool) (n : Nat) : Word := (BitVec.ofBool b).zeroExtend 32 <<< n

/-- A count in the 16-bit field of its register (10_state.md R24, 00_scope.md R9; DESIGN CHOICE beyond
65535, log 18). -/
def count16 (n : Nat) : Word := (BitVec.ofNat 16 n).zeroExtend 32

/-- `CTRL` as read (43_control.md R192). -/
def State.ctrlValue (s : State) : Word := bitAt s.rxEn 0 ||| bitAt s.baudSel 1

/-- `STATUS` as read (43_control.md R194). -/
def State.statusValue (s : State) : Word :=
  bitAt s.txBusy 0 ||| bitAt s.txDone 1 ||| bitAt s.rxReady 2 ||| bitAt s.rxActive 3 ||| bitAt s.rxCrcOk 4 |||
    bitAt s.rxSyncOk 5 ||| bitAt s.rxAddrOk 6 ||| bitAt s.rxLenOk 7 ||| bitAt s.errAny 8 ||| bitAt s.irq 9

/-- `IE` as read (43_control.md R196). -/
def State.ieValue (s : State) : Word := s.ie.zeroExtend 32

/-- `ERR` as read (43_control.md R198). -/
def State.errValue (s : State) : Word := s.err.zeroExtend 32

/-- `CRC_ACC` as read (40_crc.md R114). -/
def State.crcAccValue (s : State) : Word := s.crcAcc.zeroExtend 32

/-- A write-only register as read (20_memory.md R63). -/
def writeOnlyValue : Word := 0x00000000#32

/-- `TX_CMD` as read (41_encoder.md R143). -/
def State.txCmdValue (s : State) : Word := s.txCmd.zeroExtend 32

/-- `TX_COUNT` as read (41_encoder.md R144). -/
def State.txCountValue (s : State) : Word := count16 s.txq.length

/-- `TX_LAST_CRC` as read (41_encoder.md R145). -/
def State.txLastCrcValue (s : State) : Word := s.txLastCrc.zeroExtend 32

/-- `TX_LAST_LEN` as read (41_encoder.md R146). -/
def State.txLastLenValue (s : State) : Word := s.txLastLen.zeroExtend 32 ||| (s.txLastTotal.zeroExtend 32 <<< 16)

/-- `TX_POS` as read (41_encoder.md R147). -/
def State.txPosValue (s : State) : Word := count16 s.txPos

/-- `RX_COUNT` as read (42_decoder.md R174). -/
def State.rxCountValue (s : State) : Word := count16 s.rxbuf.length

/-- `RX_CRC_CALC` as read (42_decoder.md R175). -/
def State.rxCrcCalcValue (s : State) : Word := s.rxCrcCalc.zeroExtend 32

/-- `RX_CRC_RECV` as read (42_decoder.md R178). -/
def State.rxCrcRecvValue (s : State) : Word := s.rxCrcRecv.zeroExtend 32

/-- `RX_GAP` as read (43_control.md R200). -/
def State.rxGapValue (s : State) : Word := s.rxGap.zeroExtend 32

/-- `RXBUF[i]` as read (42_decoder.md R177). -/
def State.rxbufValue (s : State) (i : Nat) : Word := (s.rxbuf.getD i 0x00#8).zeroExtend 32

/-- The value a register reads (10_state.md R24). -/
def State.regValue (s : State) : Reg → Word
  | .ctrl => s.ctrlValue
  | .status => s.statusValue
  | .ie => s.ieValue
  | .err => s.errValue
  | .crcAcc => s.crcAccValue
  | .crcData => writeOnlyValue
  | .txCmd => s.txCmdValue
  | .txData => writeOnlyValue
  | .txGo => writeOnlyValue
  | .txCount => s.txCountValue
  | .txLastCrc => s.txLastCrcValue
  | .txLastLen => s.txLastLenValue
  | .rxCtrl => writeOnlyValue
  | .rxCount => s.rxCountValue
  | .rxCrcCalc => s.rxCrcCalcValue
  | .rxCrcRecv => s.rxCrcRecvValue
  | .rxGap => s.rxGapValue
  | .txPos => s.txPosValue
  | .rxbuf i => s.rxbufValue i

/-- The value a 32-bit read at an offset returns; none where the access is a bus error (20_memory.md R60 to R63). -/
def State.windowRead (s : State) (off : Offset) : Option Word := (regAt off).map s.regValue

end Sys2Proof.Machine
end

