-- ==== Sys2Proof/Machine/Ops.lean ====
section
/-! DEFINITION. The operations the meanings share: updates of the state, the ends of a bus access, `raise BusError` and
`raise Fault` (00_scope.md R12), the two resets (70_reset_and_hazards.md R270, R271), and the engines' steps. The block
takes no trap and has no return from one (60_exceptions.md R253, R254). -/

namespace Sys2Proof.Machine

open Sys2Proof.Config

/-- The three outcomes of a step over this machine's types. -/
abbrev Result := Host.Outcome State Fault Refusal

/-! Updates, one per thing a rule writes. -/

/-- The bus access ends with a response. -/
def State.respond (s : State) (r : BusResponse) : State := { s with busResp := r }

/-- The inputs still to come. -/
def State.withPending (s : State) (p : List Input) : State := { s with pending := p }

/-- `err <- err | m`. -/
def State.setErr (s : State) (m : BitVec 5) : State := { s with err := s.err ||| m }

/-- `err <- err & ~m` (43_control.md R199). -/
def State.clearErr (s : State) (m : BitVec 5) : State := { s with err := s.err &&& ~~~m }

/-- `raise Fault(name)`: `faulted <- 1`, and the step goes on (60_exceptions.md R247). The one fault is
`BaudChangeInFlight`. -/
def State.raiseFault (s : State) : State := { s with faulted := true }

/-- `rx_en` and `baud_sel` (43_control.md R193). -/
def State.setCtrl (s : State) (en sel : Bool) : State := { s with rxEn := en, baudSel := sel }

/-- `ie` (43_control.md R197). -/
def State.setIe (s : State) (v : BitVec 3) : State := { s with ie := v }

/-- `tx_done <- 0` (43_control.md R195). -/
def State.clearTxDone (s : State) : State := { s with txDone := false }

/-- `crc_acc` (40_crc.md R115, R116). -/
def State.setCrc (s : State) (c : Half) : State := { s with crcAcc := c }

/-- `tx_cmd` (41_encoder.md R132). -/
def State.setCmd (s : State) (b : Byte) : State := { s with txCmd := b }

/-- `txq <- txq ++ [b]` (41_encoder.md R131). -/
def State.enqueue (s : State) (b : Byte) : State := { s with txq := s.txq ++ [b] }

/-- `txq <- []` (41_encoder.md R137, R140). -/
def State.emptyQueue (s : State) : State := { s with txq := [] }

/-- Latching a frame and starting it (41_encoder.md R137 to R139): the engine's fields, `tx_done` and `tx_last_*`. -/
def State.latch (s : State) (f : List Byte) : State :=
  { s with
    txFrame := f
    txPos := 0
    txState := .sending
    txDone := false
    txLastCrc := crc16 (frameBody f)
    txLastLen := f.getD 2 0x00#8
    txLastTotal := BitVec.ofNat 16 f.length }

/-- `LineOut(b)` and `tx_pos <- tx_pos + 1` (41_encoder.md R142). -/
def State.emit (s : State) (b : Byte) : State := { s with line := s.line ++ [b], txPos := s.txPos + 1 }

/-- The end of a frame (41_encoder.md R142). -/
def State.finishFrame (s : State) : State := { s with txState := .idle, txPos := 0, txFrame := [], txDone := true }

/-- `rxbuf <- rxbuf ++ [b]; rx_state <- Collecting` (42_decoder.md R161). -/
def State.collect (s : State) (b : Byte) : State := { s with rxbuf := s.rxbuf ++ [b], rxState := .collecting }

/-- `rx_state <- Ready` (42_decoder.md R162). -/
def State.closeFrame (s : State) : State := { s with rxState := .ready }

/-- `rxbuf <- []; rx_state <- Idle` (42_decoder.md R176). -/
def State.release (s : State) : State := { s with rxbuf := [], rxState := .idle }

/-- `rx_gap` (43_control.md R201). -/
def State.setGap (s : State) (g : Byte) : State := { s with rxGap := g }

/-- The reset input's level. -/
def State.setResetIn (s : State) (level : Bool) : State := { s with resetIn := level }

/-- Every field of 10_state.md R22 except `faulted` takes its reset value (10_state.md R27, 70_reset_and_hazards.md
R270, R271). What stands outside that record is kept. -/
def State.resetFields (s : State) : State :=
  { State.reset with
    faulted := s.faulted
    resetIn := s.resetIn
    busResp := s.busResp
    line := s.line
    pending := s.pending }

/-! Ends of a bus access. -/

/-- A read returns a value and changes nothing else (20_memory.md R67). -/
def State.readDone (s : State) (v : Word) : Result := .next (s.respond (.data v))

/-- A write completes. -/
def State.writeDone (s : State) : Result := .next (s.respond .done)

/-- `raise BusError(off)`: the access ends with an error response and changes no state of the block (00_scope.md R12,
20_memory.md R61, R62, 60_exceptions.md R246). -/
def State.raiseBusError (s : State) (off : Offset) : Result := .next (s.respond (.error off))

/-! The transmitter. -/

/-- The push of a `TX_DATA` write (41_encoder.md R131). -/
def State.push (s : State) (b : Byte) : State := if s.txq.length < txqDepth then s.enqueue b else s.setErr errTxOvf

/-- The busy rule of a frame-starting operation (41_encoder.md R135): while `Sending` only TX_BUSYERR is set. -/
def State.unlessBusy (s started : State) : State := if s.txBusy then s.setErr errTxBusy else started

/-- ENCODE (41_encoder.md R137). -/
def State.startEncode (s : State) : State := s.unlessBusy (s.latch (buildFrame s.txCmd s.txq)).emptyQueue

/-- ACK and NAK (41_encoder.md R138, R139): the minimal frame of a code; `txq` and `tx_cmd` are neither read nor
changed. -/
def State.startMinimal (s : State) (cmd : Byte) : State := s.unlessBusy (s.latch (buildFrame cmd []))

/-- Where the engine stands after a character (41_encoder.md R142). -/
def State.afterChar (s : State) : State := if s.txPos = s.txFrame.length then s.finishFrame else s

/-- TXE_SEND (41_encoder.md R142). Enabled exactly while `Sending`; a turn given to an idle engine passes without effect
(DEDUCED, log 6). -/
def State.sendChar (s : State) : Result :=
  if s.txBusy then
    match s.txFrame[s.txPos]? with
    | some b => .next (s.emit b).afterChar
    | none => .fault .txPosPastFrame
  else .next s

/-! The receiver. -/

/-- Storing or dropping a character (42_decoder.md R161). -/
def State.store (s : State) (b : Byte) : State :=
  if s.rxReady then s.setErr errRxOvf
  else if s.rxbuf.length = rxbufSize then s.setErr errRxOvf
  else s.collect b

/-- `LineIn(b, stop_ok)` (42_decoder.md R160, R161). -/
def State.lineIn (s : State) (b : Byte) (stopOk : Bool) : State :=
  if s.rxEn then (if stopOk then s.store b else (s.store b).setErr errRxFerr) else s

/-- `LineGap` (42_decoder.md R162). -/
def State.lineGap (s : State) : State := if s.rxActive then s.closeFrame else s

/-! The reset input. -/

/-- A level of the reset input: while it is asserted, and in the step it is released, every field takes its reset value
(70_reset_and_hazards.md R270). A released level of an input that is released already changes nothing. -/
def State.pinReset (s : State) (level : Bool) : State :=
  if level || s.resetIn then (s.setResetIn level).resetFields else s

end Sys2Proof.Machine
end

