-- ==== Sys2Proof/Machine/Bus.lean ====
section
/-! DEFINITION. Meaning of an access no register answers (20_memory.md R61, R62). -/

namespace Sys2Proof.Machine

/-- BUS_ERROR: `raise BusError(off)` with the access's offset (20_memory.md R61, R62, 60_exceptions.md R246). -/
def execBusError (a : BadAccess) (s : State) : Result := s.raiseBusError (badOffset a)

end Sys2Proof.Machine
end

