-- ==== Sys2Proof/Machine/Control.lean ====
section
/-! DEFINITION. Meanings of the control, status and configuration registers (43_control.md) and of the soft reset
(70_reset_and_hazards.md R271). -/

namespace Sys2Proof.Machine

/-- CTRL_RD (43_control.md R192). -/
def execCtrlRd (s : State) : Result := s.readDone s.ctrlValue

/-- The mark a `CTRL` write leaves when it changes the line rate while a character is in flight: `raise
Fault(BaudChangeInFlight)` (43_control.md R193, 70_reset_and_hazards.md R279; log 16). -/
def State.baudHazard (s : State) (sel : Bool) : State := if sel != s.baudSel && s.inFlight then s.raiseFault else s

/-- CTRL_WR (43_control.md R193). -/
def execCtrlWr (data : Word) (s : State) : Result :=
  ((s.baudHazard (dataBaudSel data)).setCtrl (dataRxEn data) (dataBaudSel data)).writeDone

/-- CTRL_SRST (70_reset_and_hazards.md R271): the rest of the data is ignored. -/
def execCtrlSrst (_data : Word) (s : State) : Result := s.resetFields.writeDone

/-- STATUS_RD (43_control.md R194). -/
def execStatusRd (s : State) : Result := s.readDone s.statusValue

/-- STATUS_WR (43_control.md R195). -/
def execStatusWr (data : Word) (s : State) : Result := (if dataTxDone data then s.clearTxDone else s).writeDone

/-- IE_RD (43_control.md R196). -/
def execIeRd (s : State) : Result := s.readDone s.ieValue

/-- IE_WR (43_control.md R197). -/
def execIeWr (data : Word) (s : State) : Result := (s.setIe (dataIe data)).writeDone

/-- ERR_RD (43_control.md R198). -/
def execErrRd (s : State) : Result := s.readDone s.errValue

/-- ERR_WR (43_control.md R199). -/
def execErrWr (data : Word) (s : State) : Result := (s.clearErr (dataErr data)).writeDone

/-- RX_GAP_RD (43_control.md R200). -/
def execRxGapRd (s : State) : Result := s.readDone s.rxGapValue

/-- RX_GAP_WR (43_control.md R201). -/
def execRxGapWr (data : Word) (s : State) : Result := (s.setGap (dataByte data)).writeDone

end Sys2Proof.Machine
end

