-- ==== Sys2Proof/Machine/Crc.lean ====
section
/-! DEFINITION. Meanings of the standalone CRC unit (40_crc.md R114 to R118). -/

namespace Sys2Proof.Machine

/-- CRC_ACC_RD (40_crc.md R114). -/
def execCrcAccRd (s : State) : Result := s.readDone s.crcAccValue

/-- CRC_ACC_WR (40_crc.md R116). -/
def execCrcAccWr (data : Word) (s : State) : Result := (s.setCrc (dataHalf data)).writeDone

/-- CRC_DATA_RD (40_crc.md R117): no fold. -/
def execCrcDataRd (s : State) : Result := s.readDone writeOnlyValue

/-- CRC_DATA_WR (40_crc.md R115): folds one byte. -/
def execCrcDataWr (data : Word) (s : State) : Result := (s.setCrc (crcStep s.crcAcc (dataByte data))).writeDone

end Sys2Proof.Machine
end

