-- ==== Sys2Proof/Machine/Encoder.lean ====
section
/-! DEFINITION. Meanings of the encoder's registers and of the `TX_GO` operations (41_encoder.md). -/

namespace Sys2Proof.Machine

open Sys2Proof.Config

/-- TX_CMD_RD (41_encoder.md R143). -/
def execTxCmdRd (s : State) : Result := s.readDone s.txCmdValue

/-- TX_CMD_WR (41_encoder.md R132). -/
def execTxCmdWr (data : Word) (s : State) : Result := (s.setCmd (dataByte data)).writeDone

/-- TX_DATA_RD (41_encoder.md R148): nothing is popped. -/
def execTxDataRd (s : State) : Result := s.readDone writeOnlyValue

/-- TX_DATA_WR (41_encoder.md R131). -/
def execTxDataWr (data : Word) (s : State) : Result := (s.push (dataByte data)).writeDone

/-- TX_GO_RD (41_encoder.md R148): nothing is started. -/
def execTxGoRd (s : State) : Result := s.readDone writeOnlyValue

/-- GO_NOP (41_encoder.md R136). -/
def execGoNop (_data : Word) (s : State) : Result := s.writeDone

/-- GO_ENCODE (41_encoder.md R137, busy rule R135). -/
def execGoEncode (_data : Word) (s : State) : Result := s.startEncode.writeDone

/-- GO_ACK (41_encoder.md R138, busy rule R135). -/
def execGoAck (_data : Word) (s : State) : Result := (s.startMinimal codeAck).writeDone

/-- GO_NAK (41_encoder.md R139, busy rule R135). -/
def execGoNak (_data : Word) (s : State) : Result := (s.startMinimal codeNak).writeDone

/-- GO_FLUSH (41_encoder.md R140). -/
def execGoFlush (_data : Word) (s : State) : Result := s.emptyQueue.writeDone

/-- GO_RSVD, `OP` 0x5 (41_encoder.md R141). -/
def execGoRsvd5 (_data : Word) (s : State) : Result := (s.setErr errTxOp).writeDone

/-- GO_RSVD, `OP` 0x6 and 0x7 (41_encoder.md R141). -/
def execGoRsvd67 (_data : Word) (s : State) : Result := (s.setErr errTxOp).writeDone

/-- GO_RSVD, `OP` 0x8 to 0xF (41_encoder.md R141). -/
def execGoRsvd8F (_data : Word) (s : State) : Result := (s.setErr errTxOp).writeDone

/-- TX_COUNT_RD (41_encoder.md R144). -/
def execTxCountRd (s : State) : Result := s.readDone s.txCountValue

/-- TX_LAST_CRC_RD (41_encoder.md R145). -/
def execTxLastCrcRd (s : State) : Result := s.readDone s.txLastCrcValue

/-- TX_LAST_LEN_RD (41_encoder.md R146). -/
def execTxLastLenRd (s : State) : Result := s.readDone s.txLastLenValue

/-- TX_POS_RD (41_encoder.md R147). -/
def execTxPosRd (s : State) : Result := s.readDone s.txPosValue

/-- TX_COUNT_WR, read-only: ignored without error (20_memory.md R63). -/
def execTxCountWr (_data : Word) (s : State) : Result := s.writeDone

/-- TX_LAST_CRC_WR, read-only: ignored without error (20_memory.md R63). -/
def execTxLastCrcWr (_data : Word) (s : State) : Result := s.writeDone

/-- TX_LAST_LEN_WR, read-only: ignored without error (20_memory.md R63). -/
def execTxLastLenWr (_data : Word) (s : State) : Result := s.writeDone

/-- TX_POS_WR, read-only: ignored without error (20_memory.md R63). -/
def execTxPosWr (_data : Word) (s : State) : Result := s.writeDone

end Sys2Proof.Machine
end

