-- ==== Sys2Proof/Machine/Engines.lean ====
section
/-! DEFINITION. Meanings of the engines' and the peer's events (30_encoding.md R82). -/

namespace Sys2Proof.Machine

/-- TXE_SEND (41_encoder.md R142). -/
def execTxeSend (_ignored : Byte) (s : State) : Result := s.sendChar

/-- RXE_CHAR, `LineIn(b, true)` (42_decoder.md R160, R161). -/
def execRxeChar (b : Byte) (s : State) : Result := .next (s.lineIn b true)

/-- RXE_CHAR_FERR, `LineIn(b, false)` (42_decoder.md R160, R161). -/
def execRxeCharFerr (b : Byte) (s : State) : Result := .next (s.lineIn b false)

/-- RXE_GAP, `LineGap` (42_decoder.md R162). -/
def execRxeGap (_ignored : Byte) (s : State) : Result := .next s.lineGap

end Sys2Proof.Machine
end

