-- ==== Sys2Proof/Machine/Protocol.lean ====
section
/-! DEFINITION. Meanings of the command frames (44_protocol_commands.md): what software does to send each, as
30_encoding.md R97 expands it, taken in one step (DESIGN CHOICE, log 9). Also R97's expansions themselves, as lists
of raw inputs. -/

namespace Sys2Proof.Machine

open Sys2Proof.Config

/-- `PUSH b0, ..., bk` (30_encoding.md R97): one `TX_DATA` write a byte. -/
def State.pushAll (s : State) : List Byte → State
  | [] => s
  | b :: bs => (s.push b).pushAll bs

/-- `SEND c, [b0, ..., bk]` (30_encoding.md R97): `TX_CMD`, the pushes, ENCODE. -/
def State.sendCommand (s : State) (cmd : Byte) (payload : List Byte) : State :=
  ((s.setCmd cmd).pushAll payload).startEncode

/-- CMD_ACK (44_protocol_commands.md R220): with no payload the `TX_GO` operation ACK; with one, ENCODE of its code, "a
longer frame that is not BVRS's ACK" (DEDUCED, log 10). -/
def execCmdAck (payload : List Byte) (s : State) : Result :=
  (match payload with
    | [] => s.startMinimal codeAck
    | b :: bs => s.sendCommand codeAck (b :: bs)).writeDone

/-- CMD_NAK (44_protocol_commands.md R221): with no payload the `TX_GO` operation NAK; with one, ENCODE of its code, "a
longer frame that is not BVRS's NAK" (DEDUCED, log 10). -/
def execCmdNak (payload : List Byte) (s : State) : Result :=
  (match payload with
    | [] => s.startMinimal codeNak
    | b :: bs => s.sendCommand codeNak (b :: bs)).writeDone

/-- CMD_POLL (44_protocol_commands.md R222). -/
def execCmdPoll (payload : List Byte) (s : State) : Result := (s.sendCommand codePoll payload).writeDone

/-- CMD_RESET (44_protocol_commands.md R223). -/
def execCmdReset (payload : List Byte) (s : State) : Result := (s.sendCommand codeReset payload).writeDone

/-- CMD_GET_STATUS (44_protocol_commands.md R224). -/
def execCmdGetStatus (payload : List Byte) (s : State) : Result := (s.sendCommand codeGetStatus payload).writeDone

/-- CMD_SET_SECURITY (44_protocol_commands.md R225). -/
def execCmdSetSecurity (payload : List Byte) (s : State) : Result := (s.sendCommand codeSetSecurity payload).writeDone

/-- CMD_ENABLE_BILL_TYPES (44_protocol_commands.md R226). -/
def execCmdEnableBillTypes (payload : List Byte) (s : State) : Result :=
  (s.sendCommand codeEnableBillTypes payload).writeDone

/-- CMD_STACK (44_protocol_commands.md R227). -/
def execCmdStack (payload : List Byte) (s : State) : Result := (s.sendCommand codeStack payload).writeDone

/-- CMD_RETURN (44_protocol_commands.md R228). -/
def execCmdReturn (payload : List Byte) (s : State) : Result := (s.sendCommand codeReturn payload).writeDone

/-- CMD_IDENTIFICATION (44_protocol_commands.md R229). -/
def execCmdIdentification (payload : List Byte) (s : State) : Result := (s.sendCommand codeIdentification payload).writeDone

/-- CMD_HOLD (44_protocol_commands.md R230). -/
def execCmdHold (payload : List Byte) (s : State) : Result := (s.sendCommand codeHold payload).writeDone

/-! The expansions of 30_encoding.md R97, line by line. -/

/-- A byte as the data of a write. -/
def byteData (b : Byte) : Word := b.zeroExtend 32

/-- `PUSH b0, ..., bk`. -/
def linesPush (bs : List Byte) : List Raw := bs.map fun b => writeWord .txData (byteData b)

/-- `SEND c, [b0, ..., bk]`. -/
def linesSend (cmd : Byte) (payload : List Byte) : List Raw :=
  writeWord .txCmd (byteData cmd) :: (linesPush payload ++ [writeWord .txGo 0x1#32])

/-- `SENDACK`. -/
def linesSendAck : List Raw := [writeWord .txGo 0x2#32]

/-- `SENDNAK`. -/
def linesSendNak : List Raw := [writeWord .txGo 0x3#32]

/-- `DRAIN`: `TXSTEP` for every character left of the frame being sent. -/
def linesDrain (s : State) : List Raw :=
  if s.txBusy then List.replicate (s.txFrame.length - s.txPos) (.event (eventWord 0#2 0x00#8)) else []

/-- `CRC b0, ..., bk`. -/
def linesCrc (bs : List Byte) : List Raw :=
  writeWord .crcAcc 0x0#32 :: bs.map fun b => writeWord .crcData (byteData b)

/-- `PEER b0 b1 ... bk`. -/
def linesPeer (bs : List Byte) : List Raw := bs.map fun b => .event (eventWord 1#2 b)

/-- `PEER GAP` (30_encoding.md R96). -/
def linePeerGap : Raw := .event (eventWord 3#2 0x00#8)

/-- `RELEASE`. -/
def linesRelease : List Raw := [writeWord .rxCtrl 0x1#32]

/-- The boot sequence of 70_reset_and_hazards.md R274 with gap `g`, rate `sel` and interrupt mask `m`. -/
def linesBoot (g : Byte) (sel : Bool) (m : BitVec 3) : List Raw :=
  [writeWord .ctrl 0x80000000#32, writeWord .rxGap (byteData g),
   writeWord .ctrl (((BitVec.ofBool sel).zeroExtend 32 <<< 1) ||| 0x1#32), writeWord .err 0x1F#32,
   writeWord .rxCtrl 0x1#32, writeWord .ie (m.zeroExtend 32)]

end Sys2Proof.Machine
end

