-- ==== Sys2Proof/Machine/Receiver.lean ====
section
/-! DEFINITION. Meanings of the receiver's registers (42_decoder.md R174 to R179) and of writes to its read-only ones
(20_memory.md R63). -/

namespace Sys2Proof.Machine

/-- RX_CTRL_RD (42_decoder.md R179). -/
def execRxCtrlRd (s : State) : Result := s.readDone writeOnlyValue

/-- RX_CTRL_NOP (42_decoder.md R179). -/
def execRxCtrlNop (_data : Word) (s : State) : Result := s.writeDone

/-- RX_RELEASE (42_decoder.md R176). -/
def execRxRelease (_data : Word) (s : State) : Result := s.release.writeDone

/-- RX_COUNT_RD (42_decoder.md R174). -/
def execRxCountRd (s : State) : Result := s.readDone s.rxCountValue

/-- RX_CRC_CALC_RD (42_decoder.md R175). -/
def execRxCrcCalcRd (s : State) : Result := s.readDone s.rxCrcCalcValue

/-- RX_CRC_RECV_RD (42_decoder.md R178). -/
def execRxCrcRecvRd (s : State) : Result := s.readDone s.rxCrcRecvValue

/-- RX_COUNT_WR, read-only: ignored without error (20_memory.md R63). -/
def execRxCountWr (_data : Word) (s : State) : Result := s.writeDone

/-- RX_CRC_CALC_WR, read-only: ignored without error (20_memory.md R63). -/
def execRxCrcCalcWr (_data : Word) (s : State) : Result := s.writeDone

/-- RX_CRC_RECV_WR, read-only: ignored without error (20_memory.md R63). -/
def execRxCrcRecvWr (_data : Word) (s : State) : Result := s.writeDone

/-- RXBUF_RD, `i` from 0 to 255 (42_decoder.md R177). -/
def execRxbufRd0 (i : Nat) (s : State) : Result := s.readDone (s.rxbufValue i)

/-- RXBUF_RD, `i` from 256 to 259 (42_decoder.md R177). -/
def execRxbufRd1 (i : Nat) (s : State) : Result := s.readDone (s.rxbufValue i)

/-- RXBUF_RD, `i` 260 and 261 (42_decoder.md R177). -/
def execRxbufRd2 (i : Nat) (s : State) : Result := s.readDone (s.rxbufValue i)

/-- RXBUF_WR, `i` from 0 to 255, read-only: ignored without error (20_memory.md R63). -/
def execRxbufWr0 (_i : Nat) (_data : Word) (s : State) : Result := s.writeDone

/-- RXBUF_WR, `i` from 256 to 259, read-only: ignored without error (20_memory.md R63). -/
def execRxbufWr1 (_i : Nat) (_data : Word) (s : State) : Result := s.writeDone

/-- RXBUF_WR, `i` 260 and 261, read-only: ignored without error (20_memory.md R63). -/
def execRxbufWr2 (_i : Nat) (_data : Word) (s : State) : Result := s.writeDone

end Sys2Proof.Machine
end

