-- ==== Sys2Proof/Machine/Dispatch.lean ====
section
/-! DEFINITION. One arm per row of spec/opcode_table.json, each a call of that instruction's meaning. -/

namespace Sys2Proof.Machine

def exec (i : Instr) (s : State) : Host.Outcome State Fault Refusal :=
  match i with
  | .ctrlRd => Sys2Proof.Machine.execCtrlRd s
  | .ctrlWr data => Sys2Proof.Machine.execCtrlWr data s
  | .ctrlSrst data => Sys2Proof.Machine.execCtrlSrst data s
  | .statusRd => Sys2Proof.Machine.execStatusRd s
  | .statusWr data => Sys2Proof.Machine.execStatusWr data s
  | .ieRd => Sys2Proof.Machine.execIeRd s
  | .ieWr data => Sys2Proof.Machine.execIeWr data s
  | .errRd => Sys2Proof.Machine.execErrRd s
  | .errWr data => Sys2Proof.Machine.execErrWr data s
  | .crcAccRd => Sys2Proof.Machine.execCrcAccRd s
  | .crcAccWr data => Sys2Proof.Machine.execCrcAccWr data s
  | .crcDataRd => Sys2Proof.Machine.execCrcDataRd s
  | .crcDataWr data => Sys2Proof.Machine.execCrcDataWr data s
  | .txCmdRd => Sys2Proof.Machine.execTxCmdRd s
  | .txCmdWr data => Sys2Proof.Machine.execTxCmdWr data s
  | .txDataRd => Sys2Proof.Machine.execTxDataRd s
  | .txDataWr data => Sys2Proof.Machine.execTxDataWr data s
  | .txGoRd => Sys2Proof.Machine.execTxGoRd s
  | .goNop data => Sys2Proof.Machine.execGoNop data s
  | .goEncode data => Sys2Proof.Machine.execGoEncode data s
  | .goAck data => Sys2Proof.Machine.execGoAck data s
  | .goNak data => Sys2Proof.Machine.execGoNak data s
  | .goFlush data => Sys2Proof.Machine.execGoFlush data s
  | .goRsvd5 data => Sys2Proof.Machine.execGoRsvd5 data s
  | .goRsvd67 data => Sys2Proof.Machine.execGoRsvd67 data s
  | .goRsvd8F data => Sys2Proof.Machine.execGoRsvd8F data s
  | .txCountRd => Sys2Proof.Machine.execTxCountRd s
  | .txLastCrcRd => Sys2Proof.Machine.execTxLastCrcRd s
  | .txLastLenRd => Sys2Proof.Machine.execTxLastLenRd s
  | .rxCtrlRd => Sys2Proof.Machine.execRxCtrlRd s
  | .rxCtrlNop data => Sys2Proof.Machine.execRxCtrlNop data s
  | .rxRelease data => Sys2Proof.Machine.execRxRelease data s
  | .rxCountRd => Sys2Proof.Machine.execRxCountRd s
  | .rxCrcCalcRd => Sys2Proof.Machine.execRxCrcCalcRd s
  | .rxCrcRecvRd => Sys2Proof.Machine.execRxCrcRecvRd s
  | .rxGapRd => Sys2Proof.Machine.execRxGapRd s
  | .rxGapWr data => Sys2Proof.Machine.execRxGapWr data s
  | .txPosRd => Sys2Proof.Machine.execTxPosRd s
  | .txCountWr data => Sys2Proof.Machine.execTxCountWr data s
  | .txLastCrcWr data => Sys2Proof.Machine.execTxLastCrcWr data s
  | .txLastLenWr data => Sys2Proof.Machine.execTxLastLenWr data s
  | .rxCountWr data => Sys2Proof.Machine.execRxCountWr data s
  | .rxCrcCalcWr data => Sys2Proof.Machine.execRxCrcCalcWr data s
  | .rxCrcRecvWr data => Sys2Proof.Machine.execRxCrcRecvWr data s
  | .txPosWr data => Sys2Proof.Machine.execTxPosWr data s
  | .rxbufRd0 k => Sys2Proof.Machine.execRxbufRd0 k s
  | .rxbufWr0 k data => Sys2Proof.Machine.execRxbufWr0 k data s
  | .rxbufRd1 k => Sys2Proof.Machine.execRxbufRd1 k s
  | .rxbufWr1 k data => Sys2Proof.Machine.execRxbufWr1 k data s
  | .rxbufRd2 k => Sys2Proof.Machine.execRxbufRd2 k s
  | .rxbufWr2 k data => Sys2Proof.Machine.execRxbufWr2 k data s
  | .busError a => Sys2Proof.Machine.execBusError a s
  | .txeSend ignored => Sys2Proof.Machine.execTxeSend ignored s
  | .rxeChar b => Sys2Proof.Machine.execRxeChar b s
  | .rxeCharFerr b => Sys2Proof.Machine.execRxeCharFerr b s
  | .rxeGap ignored => Sys2Proof.Machine.execRxeGap ignored s
  | .cmdAck payload => Sys2Proof.Machine.execCmdAck payload s
  | .cmdNak payload => Sys2Proof.Machine.execCmdNak payload s
  | .cmdPoll payload => Sys2Proof.Machine.execCmdPoll payload s
  | .cmdReset payload => Sys2Proof.Machine.execCmdReset payload s
  | .cmdGetStatus payload => Sys2Proof.Machine.execCmdGetStatus payload s
  | .cmdSetSecurity payload => Sys2Proof.Machine.execCmdSetSecurity payload s
  | .cmdEnableBillTypes payload => Sys2Proof.Machine.execCmdEnableBillTypes payload s
  | .cmdStack payload => Sys2Proof.Machine.execCmdStack payload s
  | .cmdReturn payload => Sys2Proof.Machine.execCmdReturn payload s
  | .cmdIdentification payload => Sys2Proof.Machine.execCmdIdentification payload s
  | .cmdHold payload => Sys2Proof.Machine.execCmdHold payload s

end Sys2Proof.Machine
end

