-- ==== Sys2Proof/Machine/Fetch.lean ====
section
/-! DEFINITION. Which step comes next (00_scope.md R13, R14, 20_memory.md R66): the head of the pending inputs, or with
nothing pending the transmit engine's own step (DESIGN CHOICE, log 1); and the reset input
(70_reset_and_hazards.md R270; DESIGN CHOICE, log 5). -/

namespace Sys2Proof.Machine

/-- What a step is to do: run an instruction at a state, settle in a state at once, or refuse. -/
inductive Turn where
  | run (i : Instr) (s : State)
  | settle (s : State)
  | refuse (r : Refusal)
  deriving DecidableEq, Repr

/-- Whether a raw input is an access of the host to the bus. -/
def isHostAccess : Raw → Bool
  | .bus _ => true
  | .odd _ _ _ => true
  | .event _ => false
  | .frame _ => true

/-- With nothing pending: the transmit engine steps while it is `Sending` (41_encoder.md R142,
70_reset_and_hazards.md R285); otherwise the block waits. -/
def turnEmpty (s : State) : Turn :=
  if s.resetIn then .settle s.resetFields
  else if s.txBusy then .run (.txeSend 0x00#8) s
  else .settle s

/-- A raw input, already taken off the list. While reset is asserted accesses are refused and the engines stand at
their reset values (70_reset_and_hazards.md R270). -/
def turnRaw (r : Raw) (s : State) : Turn :=
  if s.resetIn then (if isHostAccess r then .refuse .accessInReset else .settle s.resetFields)
  else match decode r with
    | .instr i => .run i s
    | .rejected e => .refuse (.badFrame e)

/-- The next step of a state. -/
def turn (s : State) : Turn :=
  match s.pending with
  | [] => turnEmpty s
  | .resetPin level :: rest => .settle ((s.withPending rest).pinReset level)
  | .raw r :: rest => turnRaw r (s.withPending rest)

/-- A raw input put before everything pending, the reset input released, so that it is what the next step runs. -/
def State.place (s : State) (r : Raw) : State := { s with resetIn := false, pending := .raw r :: s.pending }

end Sys2Proof.Machine
end

