-- ==== Sys2Proof/Machine/Step.lean ====
section
/-! DEFINITION. One step of the machine, and the host's way of giving it an instruction. -/

namespace Sys2Proof.Machine

/-- One atomic step (00_scope.md R13). -/
def step (s : State) : Host.Outcome State Fault Refusal :=
  match turn s with
  | .run i t => exec i t
  | .settle t => .next t
  | .refuse r => .refused r

/-- The state with an opcode-table word as its next input (DESIGN CHOICE, logs 2 and 12). -/
def State.withFetchWord (s : State) (nbits w : Nat) : State := s.place (rawOfTable nbits w)

end Sys2Proof.Machine
end

