-- ==== Sys2Proof/Safety.lean ====
section
/-! DEFINITION. What counts as a sound state and a safe run, in the terms claims use: the invariants of 10_state.md R22,
the frames the line carries, and the conditions software must see before it acts (70_reset_and_hazards.md R275 to
R279). -/

namespace Sys2Proof.Machine

open Sys2Proof.Config

/-- A byte list the receiver's four checks accept (42_decoder.md R170 to R172). -/
def frameAccepted (f : List Byte) : Bool := frameCrcOk f && frameSyncOk f && frameAddrOk f && frameLenOk f

/-- The transmit engine's shape (10_state.md R22): idle at position 0 with no frame (41_encoder.md R142), or sending at
a position inside its frame. -/
abbrev State.TxShape (s : State) : Prop :=
  (s.txState = .idle → s.txPos = 0 ∧ s.txFrame = []) ∧ (s.txState = .sending → s.txPos < s.txFrame.length)

/-- The receive engine's shape (10_state.md R22): idle exactly when the buffer is empty. -/
abbrev State.RxShape (s : State) : Prop := s.rxState = .idle ↔ s.rxbuf = []

/-- The capacities (10_state.md R22, R23, 30_encoding.md R95). -/
abbrev State.WithinCapacity (s : State) : Prop :=
  s.txq.length ≤ txqDepth ∧ s.rxbuf.length ≤ rxbufSize ∧ s.txFrame.length ≤ txqDepth + frameOverhead

/-- The frame being sent is one a receiver's checks accept (41_encoder.md R149), and `tx_last_*` are its own
(41_encoder.md R137). -/
abbrev State.FrameSound (s : State) : Prop :=
  s.txState = .sending → frameAccepted s.txFrame = true ∧ s.txLastCrc = crc16 (frameBody s.txFrame) ∧
    s.txLastLen = s.txFrame.getD 2 0x00#8 ∧ s.txLastTotal.toNat = s.txFrame.length

/-- While the reset input is asserted every field stands at its reset value (70_reset_and_hazards.md R270). -/
abbrev State.ResetHeld (s : State) : Prop := s.resetIn = true → s.resetFields = s

/-- The invariants the rules keep (10_state.md R22), with what a latched frame is and what the reset input holds. -/
abbrev State.Inv (s : State) : Prop :=
  s.TxShape ∧ s.RxShape ∧ s.WithinCapacity ∧ s.FrameSound ∧ s.ResetHeld

/-- The run has met no hazard: the premise of claims about a run (60_exceptions.md R247). -/
def State.unfaulted (s : State) : Bool := !s.faulted

/-- Software may start a frame (70_reset_and_hazards.md R275). -/
def State.mayStartFrame (s : State) : Bool := !s.txBusy

/-- Software may change the line rate (70_reset_and_hazards.md R279). -/
def State.mayChangeRate (s : State) : Bool := !s.inFlight

/-- The receiver is released and the transmitter free, as an exchange wants it (70_reset_and_hazards.md R276, R277). -/
def State.readyForExchange (s : State) : Bool := !s.txBusy && s.rxState == .idle && s.rxEn

/-- A received frame is complete and may be read (70_reset_and_hazards.md R278). -/
def State.responseComplete (s : State) : Bool := s.rxReady

/-- A complete response whose checksum is right (60_exceptions.md R248: "any mismatch fails the whole frame"). -/
def State.responseValid (s : State) : Bool := s.rxReady && s.rxCrcOk

/-- The premise of a claim about an exchange: totals the LEN byte can say (93_implementation_defined.md I5). -/
def withinLenLimit (f : List Byte) : Bool := decide (f.length ≤ lenLimit)

/-- Every field of 10_state.md R22 but `faulted` at the value of its reset column (70_reset_and_hazards.md R270). -/
abbrev State.AtReset (s : State) : Prop :=
  s.rxEn = false ∧ s.baudSel = false ∧ s.ie = 0#3 ∧ s.err = 0#5 ∧ s.txDone = false ∧ s.crcAcc = 0x0000#16 ∧
    s.txCmd = 0x00#8 ∧ s.txq = [] ∧ s.txState = .idle ∧ s.txFrame = [] ∧ s.txPos = 0 ∧ s.txLastCrc = 0x0000#16 ∧
    s.txLastLen = 0x00#8 ∧ s.txLastTotal = 0#16 ∧ s.rxState = .idle ∧ s.rxbuf = [] ∧ s.rxGap = 20#8

/-- The bits of a register that hold a readable field (10_state.md R24, columns bits and access); the rest read 0. -/
def readMask : Reg → Word
  | .ctrl => 0x00000003#32
  | .status => 0x000003FF#32
  | .ie => 0x00000007#32
  | .err => 0x0000001F#32
  | .crcAcc => 0x0000FFFF#32
  | .crcData => 0x00000000#32
  | .txCmd => 0x000000FF#32
  | .txData => 0x00000000#32
  | .txGo => 0x00000000#32
  | .txCount => 0x0000FFFF#32
  | .txLastCrc => 0x0000FFFF#32
  | .txLastLen => 0xFFFF00FF#32
  | .rxCtrl => 0x00000000#32
  | .rxCount => 0x0000FFFF#32
  | .rxCrcCalc => 0x0000FFFF#32
  | .rxCrcRecv => 0x0000FFFF#32
  | .rxGap => 0x000000FF#32
  | .txPos => 0x0000FFFF#32
  | .rxbuf _ => 0x000000FF#32

/-- The bits of a register that hold a field a write acts on (10_state.md R24: RW, WO and W1C); the rest ignore
writes. -/
def writeMask : Reg → Word
  | .ctrl => 0x80000003#32
  | .status => 0x00000002#32
  | .ie => 0x00000007#32
  | .err => 0x0000001F#32
  | .crcAcc => 0x0000FFFF#32
  | .crcData => 0x000000FF#32
  | .txCmd => 0x000000FF#32
  | .txData => 0x000000FF#32
  | .txGo => 0x0000000F#32
  | .txCount => 0x00000000#32
  | .txLastCrc => 0x00000000#32
  | .txLastLen => 0x00000000#32
  | .rxCtrl => 0x00000001#32
  | .rxCount => 0x00000000#32
  | .rxCrcCalc => 0x00000000#32
  | .rxCrcRecv => 0x00000000#32
  | .rxGap => 0x000000FF#32
  | .txPos => 0x00000000#32
  | .rxbuf _ => 0x00000000#32

/-- A register that exists: `RXBUF[i]` only for `i < 262` (10_state.md R24). -/
def regExists : Reg → Bool
  | .rxbuf i => decide (i < rxbufSize)
  | _ => true

/-- Running a list of raw inputs, one step each, from a state (30_encoding.md R96: one step a line): the state after the
last, or nothing where a step faults or is refused. -/
def runLines (s : State) : List Raw → Option State
  | [] => some s
  | r :: rs =>
    match step (s.place r) with
    | .next t => runLines t rs
    | .fault _ => none
    | .refused _ => none

/-- `n` steps, nothing where one faults or is refused. -/
def runSteps : Nat → State → Option State
  | 0, s => some s
  | n + 1, s =>
    match step s with
    | .next t => runSteps n t
    | .fault _ => none
    | .refused _ => none

end Sys2Proof.Machine
end

