-- ==== Sys2Proof/WellFormed.lean ====
section
/-! DEFINITION. Well-formed instructions: operands the row's encoding admits (spec/opcode_table.json, 30_encoding.md
R81 to R83, R95). -/

namespace Sys2Proof

open Sys2Proof.Config Sys2Proof.Machine

/-- A payload the transmit queue can hold (30_encoding.md R95, 41_encoder.md R149). -/
def payloadFits (payload : List Byte) : Bool := decide (payload.length ≤ txqDepth)

/-- Whether an instruction's operands are ones its row's encoding admits. -/
def Instr.wf : Instr → Bool
  | .ctrlRd => true
  | .ctrlWr data => !srstBit data
  | .ctrlSrst data => srstBit data
  | .statusRd => true
  | .statusWr _ => true
  | .ieRd => true
  | .ieWr _ => true
  | .errRd => true
  | .errWr _ => true
  | .crcAccRd => true
  | .crcAccWr _ => true
  | .crcDataRd => true
  | .crcDataWr _ => true
  | .txCmdRd => true
  | .txCmdWr _ => true
  | .txDataRd => true
  | .txDataWr _ => true
  | .txGoRd => true
  | .goNop data => goOp data == 0x0#4
  | .goEncode data => goOp data == 0x1#4
  | .goAck data => goOp data == 0x2#4
  | .goNak data => goOp data == 0x3#4
  | .goFlush data => goOp data == 0x4#4
  | .goRsvd5 data => goOp data == 0x5#4
  | .goRsvd67 data => goOp data == 0x6#4 || goOp data == 0x7#4
  | .goRsvd8F data => (goOp data).getLsbD 3
  | .txCountRd => true
  | .txLastCrcRd => true
  | .txLastLenRd => true
  | .rxCtrlRd => true
  | .rxCtrlNop data => !releaseBit data
  | .rxRelease data => releaseBit data
  | .rxCountRd => true
  | .rxCrcCalcRd => true
  | .rxCrcRecvRd => true
  | .rxGapRd => true
  | .rxGapWr _ => true
  | .txPosRd => true
  | .txCountWr _ => true
  | .txLastCrcWr _ => true
  | .txLastLenWr _ => true
  | .rxCountWr _ => true
  | .rxCrcCalcWr _ => true
  | .rxCrcRecvWr _ => true
  | .txPosWr _ => true
  | .rxbufRd0 i => decide (i < 256)
  | .rxbufWr0 i _ => decide (i < 256)
  | .rxbufRd1 i => decide (256 ≤ i) && decide (i < 260)
  | .rxbufWr1 i _ => decide (256 ≤ i) && decide (i < 260)
  | .rxbufRd2 i => decide (260 ≤ i) && decide (i < rxbufSize)
  | .rxbufWr2 i _ => decide (260 ≤ i) && decide (i < rxbufSize)
  | .busError (.word t) => (regAt (busOff t)).isNone
  | .busError (.width _ _ _) => true
  | .txeSend _ => true
  | .rxeChar _ => true
  | .rxeCharFerr _ => true
  | .rxeGap _ => true
  | .cmdAck payload => payloadFits payload
  | .cmdNak payload => payloadFits payload
  | .cmdPoll payload => payloadFits payload
  | .cmdReset payload => payloadFits payload
  | .cmdGetStatus payload => payloadFits payload
  | .cmdSetSecurity payload => payloadFits payload
  | .cmdEnableBillTypes payload => payloadFits payload
  | .cmdStack payload => payloadFits payload
  | .cmdReturn payload => payloadFits payload
  | .cmdIdentification payload => payloadFits payload
  | .cmdHold payload => payloadFits payload

/-- A raw input written as the spec writes it: a read word of a register carries `DATA` 0 (30_encoding.md R81). -/
def Raw.canonical : Raw → Bool
  | .bus t => busWrite t || (regAt (busOff t)).isNone || busData t == 0#32
  | .odd _ _ _ => true
  | .event _ => true
  | .frame _ => true

end Sys2Proof
end

