-- ==== Sys2Proof/Certificates/Slice0/Obligations.lean ====
section
/-! DEFINITION. The statements for the provers. Each docstring says which rules of spec/ it formalises; a statement that
rests on a choice of the model names its log entry. -/

open Sys2Proof Sys2Proof.Config Sys2Proof.Machine

/-- For every well-formed instruction of all 67 rows, with every operand its encoding admits, decode of encode is the
instruction. (30_encoding.md R81, 30_encoding.md R82, 30_encoding.md R86, spec/opcode_table.json.) -/
def Obligations.DecodeOfEncodeIsTheInstruction : Prop :=
  ∀ i : Instr, i.wf = true → decode (encode i) = .instr i

/-- For every raw input written as the spec writes it (a read of a register carries DATA 0; that reads ignore DATA is
log 8), if it decodes to i then encode i is that input, so no bit of a write, an event or a frame is dropped.
(30_encoding.md R81, 30_encoding.md R82, 30_encoding.md R86.) -/
def Obligations.EncodeOfDecodeIsTheInput : Prop :=
  ∀ (r : Raw) (i : Instr), r.canonical = true → decode r = .instr i → encode i = r

/-- Every instruction the decoder answers, on any raw input, is well-formed. (30_encoding.md R81, 30_encoding.md R82,
30_encoding.md R95.) -/
def Obligations.DecodedInstructionIsWellFormed : Prop :=
  ∀ (r : Raw) (i : Instr), decode r = .instr i → i.wf = true

/-- For every 45-bit word t and every bus row of the opcode table: t has the row's bits exactly when t decodes to an
instruction of that row (so no two rows overlap); and a word decodes to BUS_ERROR, carrying t, exactly when it meets
no row. (spec/opcode_table.json, 30_encoding.md R81, 30_encoding.md R94.) -/
def Obligations.BusWordDecodesToTheOneRowItMatches : Prop :=
  ∀ t : BitVec 45,
    (∀ row ∈ busRows, row.holds t.toNat = true ↔ tableRow (decodeBus t) = some row) ∧
    (decodeBus t = .busError (.word t) ↔ ∀ row ∈ busRows, row.holds t.toNat = false) ∧
    decode (.bus t) = .instr (decodeBus t)

/-- Words of programs P1 to P4 and of the opcode table decode as the spec's listing says: soft reset, TX_CMD, GO_ENCODE,
STATUS read, RXBUF[3] read, CRC_DATA, a reserved TX_GO operation, RX release, RXBUF[261], an unmapped offset, and
the four event kinds. (95_test_vectors.md section 3, programs P1 to P4, 30_encoding.md R81, 30_encoding.md R82.) -/
def Obligations.WrittenOutWordsDecode : Prop :=
  decode (.bus 0x100080000000#45) = .instr (.ctrlSrst 0x80000000#32) ∧
    decode (.bus 0x101800000033#45) = .instr (.txCmdWr 0x33#32) ∧
    decode (.bus 0x102000000001#45) = .instr (.goEncode 0x1#32) ∧
    decode (.bus 0x000400000000#45) = .instr .statusRd ∧
    decode (.bus 0x040C00000000#45) = .instr (.rxbufRd0 3) ∧
    decode (.bus 0x101400000009#45) = .instr (.crcDataWr 0x9#32) ∧
    decode (.bus 0x102000000009#45) = .instr (.goRsvd8F 0x9#32) ∧
    decode (.bus 0x103000000001#45) = .instr (.rxRelease 0x1#32) ∧
    decode (.bus 0x081400000000#45) = .instr (.rxbufRd2 261) ∧
    decode (.bus 0x004800000000#45) = .instr (.busError (.word 0x004800000000#45)) ∧
    decode (.event 0x000#10) = .instr (.txeSend 0x00#8) ∧ decode (.event 0x1DA#10) = .instr (.rxeChar 0xDA#8) ∧
    decode (.event 0x200#10) = .instr (.rxeCharFerr 0x00#8) ∧ decode (.event 0x300#10) = .instr (.rxeGap 0x00#8)

/-- The frame of each of the eleven commands, with the payload the spec gives (three zero bytes for SET_SECURITY, the
illustrative six-byte bitmap for ENABLE_BILL_TYPES, none for the others), is the bytes 44_protocol_commands.md
prints, and they decode to the command. (44_protocol_commands.md R220 to R230, spec/opcode_table.json, column frame,
30_encoding.md R91.) -/
def Obligations.CommandFramesWrittenOut : Prop :=
  (encode (.cmdAck []) = .frame [0x02#8, 0x03#8, 0x06#8, 0x00#8, 0xC2#8, 0x82#8] ∧
      decode (.frame [0x02#8, 0x03#8, 0x06#8, 0x00#8, 0xC2#8, 0x82#8]) = .instr (.cmdAck [])) ∧
    (encode (.cmdNak []) = .frame [0x02#8, 0x03#8, 0x06#8, 0xFF#8, 0xBA#8, 0x8D#8] ∧
      decode (.frame [0x02#8, 0x03#8, 0x06#8, 0xFF#8, 0xBA#8, 0x8D#8]) = .instr (.cmdNak [])) ∧
    (encode (.cmdPoll []) = .frame [0x02#8, 0x03#8, 0x06#8, 0x33#8, 0xDA#8, 0x81#8] ∧
      decode (.frame [0x02#8, 0x03#8, 0x06#8, 0x33#8, 0xDA#8, 0x81#8]) = .instr (.cmdPoll [])) ∧
    (encode (.cmdReset []) = .frame [0x02#8, 0x03#8, 0x06#8, 0x30#8, 0x41#8, 0xB3#8] ∧
      decode (.frame [0x02#8, 0x03#8, 0x06#8, 0x30#8, 0x41#8, 0xB3#8]) = .instr (.cmdReset [])) ∧
    (encode (.cmdGetStatus []) = .frame [0x02#8, 0x03#8, 0x06#8, 0x31#8, 0xC8#8, 0xA2#8] ∧
      decode (.frame [0x02#8, 0x03#8, 0x06#8, 0x31#8, 0xC8#8, 0xA2#8]) = .instr (.cmdGetStatus [])) ∧
    (encode (.cmdSetSecurity [0x00#8, 0x00#8, 0x00#8]) =
        .frame [0x02#8, 0x03#8, 0x09#8, 0x32#8, 0x00#8, 0x00#8, 0x00#8, 0x26#8, 0x1F#8] ∧
      decode (.frame [0x02#8, 0x03#8, 0x09#8, 0x32#8, 0x00#8, 0x00#8, 0x00#8, 0x26#8, 0x1F#8]) =
        .instr (.cmdSetSecurity [0x00#8, 0x00#8, 0x00#8])) ∧
    (encode (.cmdEnableBillTypes [0xFF#8, 0xFF#8, 0xFF#8, 0xFF#8, 0xFF#8, 0xFF#8]) =
        .frame [0x02#8, 0x03#8, 0x0C#8, 0x34#8, 0xFF#8, 0xFF#8, 0xFF#8, 0xFF#8, 0xFF#8, 0xFF#8, 0xFE#8, 0xF7#8] ∧
      decode (.frame [0x02#8, 0x03#8, 0x0C#8, 0x34#8, 0xFF#8, 0xFF#8, 0xFF#8, 0xFF#8, 0xFF#8, 0xFF#8, 0xFE#8, 0xF7#8]) =
        .instr (.cmdEnableBillTypes [0xFF#8, 0xFF#8, 0xFF#8, 0xFF#8, 0xFF#8, 0xFF#8])) ∧
    (encode (.cmdStack []) = .frame [0x02#8, 0x03#8, 0x06#8, 0x35#8, 0xEC#8, 0xE4#8] ∧
      decode (.frame [0x02#8, 0x03#8, 0x06#8, 0x35#8, 0xEC#8, 0xE4#8]) = .instr (.cmdStack [])) ∧
    (encode (.cmdReturn []) = .frame [0x02#8, 0x03#8, 0x06#8, 0x36#8, 0x77#8, 0xD6#8] ∧
      decode (.frame [0x02#8, 0x03#8, 0x06#8, 0x36#8, 0x77#8, 0xD6#8]) = .instr (.cmdReturn [])) ∧
    (encode (.cmdIdentification []) = .frame [0x02#8, 0x03#8, 0x06#8, 0x37#8, 0xFE#8, 0xC7#8] ∧
      decode (.frame [0x02#8, 0x03#8, 0x06#8, 0x37#8, 0xFE#8, 0xC7#8]) = .instr (.cmdIdentification [])) ∧
    (encode (.cmdHold []) = .frame [0x02#8, 0x03#8, 0x06#8, 0x38#8, 0x09#8, 0x3F#8] ∧
      decode (.frame [0x02#8, 0x03#8, 0x06#8, 0x38#8, 0x09#8, 0x3F#8]) = .instr (.cmdHold []))

/-- For every byte the ten levels of its character are 0, the data bits from bit 0 to bit 7, and 1; sampling them gives
the byte with stop_ok true; the same with stop bit 0 gives stop_ok false; a line held at space gives 0x00 with
stop_ok false. (30_encoding.md R84, 42_decoder.md R165.) -/
def Obligations.UartCharacterIsTenBitsAndReadsBack : Prop :=
  ∀ b : Byte,
    uartChar b = [false, b.getLsbD 0, b.getLsbD 1, b.getLsbD 2, b.getLsbD 3, b.getLsbD 4, b.getLsbD 5, b.getLsbD 6,
      b.getLsbD 7, true] ∧
    uartSample (uartChar b) = some (b, true) ∧
    uartSample ((uartChar b).take 9 ++ [false]) = some (b, false) ∧
    uartSample (List.replicate 10 false) = some (0x00#8, false)

/-- With the reset input released, if the head of the pending inputs is a raw input that decodes to i, then step is exec
of i at the state with that input taken off the list. That the order of steps is a list in the state is the model's
choice (log 1). (00_scope.md R13, 20_memory.md R66, 20_memory.md R69.) -/
def Obligations.StepRunsTheDecodedInstruction : Prop :=
  ∀ (s : State) (r : Raw) (rest : List Input) (i : Instr), s.resetIn = false → s.pending = .raw r :: rest →
    decode r = .instr i → step s = exec i { s with pending := rest }

/-- With nothing pending and the reset input released, the step is TXE_SEND while Sending and leaves the state as it is
otherwise. This is the model's choice of how the engine's own steps come about (log 1). (41_encoder.md R142,
70_reset_and_hazards.md R285, 00_scope.md R14.) -/
def Obligations.EngineStepsWhenNothingIsPending : Prop :=
  ∀ s : State, s.resetIn = false → s.pending = [] →
    (s.txState = .sending → step s = exec (.txeSend 0x00#8) s) ∧ (s.txState = .idle → step s = .next s)

/-- If step answers a refusal, then either the reset input is asserted and the next input is a host access (the refusal
is accessInReset), or the next input is a byte sequence the decoder rejects as a command frame (badFrame). R270
gives the refusal of a bus access; that a command frame is refused with it is log 5 and that bytes which are no
command frame are refused is log 11, both the model's choice. (70_reset_and_hazards.md R270.) -/
def Obligations.StepRefusesOnlyInResetOrOnNoFrame : Prop :=
  ∀ (s : State) (r : Refusal), step s = .refused r →
    ∃ (x : Raw) (rest : List Input), s.pending = .raw x :: rest ∧
      ((r = .accessInReset ∧ s.resetIn = true ∧ isHostAccess x = true) ∨
       (∃ (bytes : List Byte) (e : DecodeError), x = .frame bytes ∧ decodeFrame bytes = .rejected e ∧ r = .badFrame e))

/-- A level of the reset input that asserts it, keeps it asserted or releases it gives a next state with every field of
R22 at its reset value, faulted unchanged and the output at mark; a released level while it is already released
changes nothing. While reset is asserted a bus access is refused, and any other step that gives a next state leaves
every field at its reset value. The model's choices in it: a level is an entry of the pending list (logs 1 and 5); a
command frame in reset is refused and a character or gap in reset leaves the reset values (log 5); the last bus
response and the characters sent are kept (logs 3 and 4). (70_reset_and_hazards.md R270, 10_state.md R27,
00_scope.md R12.) -/
def Obligations.ResetInputGivesEveryFieldItsResetValue : Prop :=
  ∀ s : State,
    (∀ (level : Bool) (rest : List Input), s.pending = .resetPin level :: rest → (level = true ∨ s.resetIn = true) →
      ∃ t, step s = .next t ∧ t.AtReset ∧ t.outputIdles = true ∧ t.faulted = s.faulted ∧ t.resetIn = level ∧
        t.busResp = s.busResp ∧ t.line = s.line ∧ t.pending = rest) ∧
    (∀ rest : List Input, s.pending = .resetPin false :: rest → s.resetIn = false →
      step s = .next { s with pending := rest }) ∧
    (∀ (x : Raw) (rest : List Input), s.resetIn = true → s.pending = .raw x :: rest → isHostAccess x = true →
      step s = .refused .accessInReset) ∧
    (∀ t, s.resetIn = true → step s = .next t → t.AtReset ∧ t.outputIdles = true ∧ t.faulted = s.faulted)

/-- In every state whose fields of R22 are at their reset values (which both resets leave, faulted being kept), a read
at any offset that names a register returns 0, but 20 at RX_GAP; both resets (the soft reset, and every level of the
reset input that asserts it, keeps it asserted or releases it) leave such a state with faulted unchanged; and at the
start of a run the fields are at reset with faulted 0. (R27.) -/
def Obligations.EveryRegisterReadsItsResetValueAfterReset : Prop :=
  (∀ s : State, s.AtReset → ∀ off : Offset,
      s.windowRead off = (regAt off).map (fun r => if r = .rxGap then 20#32 else 0#32)) ∧
    (∀ (s t : State) (d : Word), exec (.ctrlSrst d) s = .next t → t.AtReset ∧ t.faulted = s.faulted) ∧
    (∀ (s t : State) (level : Bool) (rest : List Input), s.pending = .resetPin level :: rest →
      (level = true ∨ s.resetIn = true) → step s = .next t →
      t.AtReset ∧ t.faulted = s.faulted) ∧
    State.reset.AtReset ∧ State.reset.faulted = false

/-- For every data with bit 31 set, the CTRL write decodes to CTRL_SRST; from every state, whatever the other bits, it
completes with every field of R22 except faulted at its reset value: the frame being sent or received and the queue
are gone, the receiver is off, faulted is kept even with a rate change in flight. (R271.) -/
def Obligations.SoftResetResetsInOneStep : Prop :=
  (∀ d : Word, d.getLsbD 31 = true → decode (.bus (busWord true 0x000#12 d)) = .instr (.ctrlSrst d)) ∧
    ∀ (s : State) (d : Word), exec (.ctrlSrst d) s = .next
      { rxEn := false, baudSel := false, ie := 0#3, err := 0#5, txDone := false, crcAcc := 0x0000#16, txCmd := 0x00#8,
        txq := [], txState := .idle, txFrame := [], txPos := 0, txLastCrc := 0x0000#16, txLastLen := 0x00#8,
        txLastTotal := 0#16, rxState := .idle, rxbuf := [], rxGap := 20#8, faulted := s.faulted, resetIn := s.resetIn,
        busResp := .done, line := s.line, pending := s.pending }

/-- State.reset has the invariant that every step keeps. (10_state.md R22, 10_state.md R27.) -/
def Obligations.ResetStateHasTheInvariant : Prop :=
  State.reset.Inv

/-- If the invariant holds (idle at position 0, sending inside the frame, receiver idle exactly when its buffer is
empty, capacities kept, the frame being sent accepted by a receiver's four checks with tx_last_* its own, every
field at reset while the reset input is asserted) and step answers a next state, the invariant holds there.
(10_state.md R22, 30_encoding.md R95, 41_encoder.md R142, 41_encoder.md R149, 70_reset_and_hazards.md R270.) -/
def Obligations.StepKeepsTheInvariant : Prop :=
  ∀ s t : State, s.Inv → step s = .next t → t.Inv

/-- From a state with the invariant, step never answers a fault: the one fault, a send position outside the frame,
cannot be met (log 7). (10_state.md R22, 41_encoder.md R142, 60_exceptions.md R247.) -/
def Obligations.StepFromTheInvariantNeverFaults : Prop :=
  ∀ (s : State) (f : Fault), s.Inv → step s ≠ .fault f

/-- If faulted is set and step answers a next state, faulted is set there: neither reset nor anything else clears it.
(60_exceptions.md R247, 10_state.md R27.) -/
def Obligations.FaultedIsNeverCleared : Prop :=
  ∀ s t : State, s.faulted = true → step s = .next t → t.faulted = true

/-- If an instruction leads to a state with faulted set, it was set before or the instruction is a CTRL write whose bit
1 differs from baud_sel while sending or collecting. (60_exceptions.md R247, 43_control.md R193,
70_reset_and_hazards.md R279.) -/
def Obligations.OnlyARateChangeInFlightFaults : Prop :=
  ∀ (i : Instr) (s t : State), exec i s = .next t → t.faulted = true →
    s.faulted = true ∨
    ∃ d : Word, i = .ctrlWr d ∧ d.getLsbD 1 ≠ s.baudSel ∧ (s.txState = .sending ∨ s.rxState = .collecting)

/-- crc_step is eight turns of the loop of R110 on the CRC with the byte XORed in, and has the rule's three corner
values. (R110.) -/
def Obligations.CrcStepIsTheReflectedLoop : Prop :=
  (∀ (c : Half) (b : Byte), crcStep c b =
      (fun x : BitVec 16 => if x.getLsbD 0 = true then (x >>> 1) ^^^ 0x8408#16 else x >>> 1)^[8]
        (c ^^^ b.zeroExtend 16)) ∧
    crcStep 0x0000#16 0x00#8 = 0x0000#16 ∧ crcStep 0x0000#16 0x80#8 = 0x8408#16 ∧
    crcStep 0x0000#16 0x01#8 = 0x1189#16

/-- CRC16 of a list is the left fold of crc_step from 0x0000; it is 0 on the empty list and 0x81DA on 02 03 06 33; the
frame checksum is CRC16 of the frame but its last two bytes, low byte first; so the POLL frame is 02 03 06 33 DA 81.
(R111.) -/
def Obligations.CrcOfAListIsTheFoldFromZero : Prop :=
  (∀ xs : List Byte, crc16 xs = xs.foldl crcStep 0x0000#16) ∧ crc16 [] = 0x0000#16 ∧
    crc16 [0x02#8, 0x03#8, 0x06#8, 0x33#8] = 0x81DA#16 ∧
    (∀ (cmd : Byte) (p : List Byte), buildFrame cmd p = frameBody (buildFrame cmd p) ++
      [(crc16 (frameBody (buildFrame cmd p))).truncate 8, (crc16 (frameBody (buildFrame cmd p)) >>> 8).truncate 8]) ∧
    buildFrame 0x33#8 [] = [0x02#8, 0x03#8, 0x06#8, 0x33#8, 0xDA#8, 0x81#8]

/-- The five properties of R112: (a) a list followed by its checksum, low byte first, has CRC 0; (b) crc_step and CRC16
are linear over XOR; (c) a leading zero byte is invisible, crc_step(0,0)=0; (d) flipping any one bit of a frame that
passes the checksum makes it fail; (e) after a list of CRC 0 the fold starts anew, so a run of lists of CRC 0 has
CRC 0. (R112.) -/
def Obligations.CrcResidueLinearityAndErrorDetection : Prop :=
  (∀ xs : List Byte, crc16 (xs ++ [lo (crc16 xs), hi (crc16 xs)]) = 0x0000#16) ∧
    (∀ (c1 c2 : Half) (b1 b2 : Byte), crcStep (c1 ^^^ c2) (b1 ^^^ b2) = crcStep c1 b1 ^^^ crcStep c2 b2) ∧
    (∀ xs ys : List Byte, xs.length = ys.length →
      crc16 (List.zipWith (fun x y => x ^^^ y) xs ys) = crc16 xs ^^^ crc16 ys) ∧
    (∀ xs : List Byte, crc16 (0x00#8 :: xs) = crc16 xs) ∧ crcStep 0x0000#16 0x00#8 = 0x0000#16 ∧
    (∀ (f : List Byte) (k j : Nat), frameCrcOk f = true → k < f.length → j < 8 →
      frameCrcOk (f.set k (f.getD k 0x00#8 ^^^ (1#8 <<< j))) = false) ∧
    (∀ f g : List Byte, crc16 f = 0x0000#16 → crc16 (f ++ g) = crc16 g) ∧
    (∀ fs : List (List Byte), (∀ f ∈ fs, crc16 f = 0x0000#16) → crc16 fs.flatten = 0x0000#16)

/-- A byte list of two or more bytes passes the checksum comparison exactly when CRC16 over all its bytes is 0; a
shorter one never passes; the two-byte list 00 00 passes. (42_decoder.md R170, 40_crc.md R112.) -/
def Obligations.ChecksumTestIsZeroResidue : Prop :=
  (∀ f : List Byte, 2 ≤ f.length → (frameCrcOk f = true ↔ crc16 f = 0x0000#16)) ∧
    (∀ f : List Byte, f.length < 2 → frameCrcOk f = false) ∧ frameCrcOk [0x00#8, 0x00#8] = true

/-- The words at 0x010 and 0x014 decode to the CRC unit's instructions. CRC_ACC reads the accumulator with bits 31:16
zero; a CRC_DATA write folds DATA[7:0] and a CRC_ACC read right after returns the folded value; a CRC_ACC write
loads DATA[15:0], any value, so that loading CRC16 of xs resumes its checksum (CRC16 of xs ++ ys is the fold over ys
from it); CRC_DATA reads 0 without a fold. Nothing else changes: no frame, no tx_last_crc, no flag. (R114, R115,
R116, R117.) -/
def Obligations.CrcUnitRegisters : Prop :=
  decode (.bus (busWord false 0x010#12 0#32)) = .instr .crcAccRd ∧
    decode (.bus (busWord false 0x014#12 0#32)) = .instr .crcDataRd ∧
    (∀ d : Word, decode (.bus (busWord true 0x014#12 d)) = .instr (.crcDataWr d)) ∧
    (∀ d : Word, decode (.bus (busWord true 0x010#12 d)) = .instr (.crcAccWr d)) ∧
    (∀ (s : State) (d : Word),
      exec (.crcAccWr d) s = .next { s with crcAcc := d.extractLsb' 0 16, busResp := .done }) ∧
    (∀ xs ys : List Byte, crc16 (xs ++ ys) = ys.foldl crcStep (crc16 xs)) ∧
    (∀ s : State, exec .crcAccRd s = .next { s with busResp := .data (s.crcAcc.zeroExtend 32) }) ∧
    (∀ s : State, exec .crcDataRd s = .next { s with busResp := .data 0x00000000#32 }) ∧
    (∀ (s : State) (d : Word),
      ∃ t, exec (.crcDataWr d) s = .next t ∧
        t = { s with crcAcc := crcStep s.crcAcc (d.extractLsb' 0 8), busResp := .done } ∧
        exec .crcAccRd t =
          .next { t with busResp := .data ((crcStep s.crcAcc (d.extractLsb' 0 8)).zeroExtend 32) }) ∧
    crcStep 0x0000#16 0x02#8 = 0x2312#16

/-- With the reset input released, the lines of the pseudo-instruction CRC, one step each, leave CRC16 of the bytes in
the accumulator and nothing else changed; and writing the bytes of ys alone after CRC16(xs) was loaded leaves
CRC16(xs ++ ys). (40_crc.md R115, 40_crc.md R116, 30_encoding.md R97.) -/
def Obligations.CrcUnitComputesTheChecksumOfWrittenBytes : Prop :=
  (∀ (s : State) (bs : List Byte), s.resetIn = false →
      runLines s (linesCrc bs) = some { s with crcAcc := crc16 bs, busResp := .done }) ∧
    (∀ (s : State) (xs : List Byte) (y : Byte) (ys : List Byte), s.resetIn = false → s.crcAcc = crc16 xs →
      runLines s ((y :: ys).map fun b => writeWord .crcData (byteData b)) =
        some { s with crcAcc := crc16 (xs ++ (y :: ys)), busResp := .done })

/-- For P from 0 to 244 LEN is P + 6, at most 250, and for P of 245 or more it is 0. (R87.) -/
def Obligations.LenByteIsTotalOrZeroAbove250 : Prop :=
  ∀ p : Nat, (p ≤ 244 → (lenByte p).toNat = p + 6) ∧ (245 ≤ p → lenByte p = 0x00#8)

/-- For every command and payload the frame has P + 6 bytes: SYNC, ADDR, LEN, CMD at 0 to 3, the payload in order from
4, and at 4 + P and 5 + P the low and high bytes of CRC16 of everything before. (R86.) -/
def Obligations.FrameLayoutIndexByIndex : Prop :=
  ∀ (cmd : Byte) (p : List Byte),
    (buildFrame cmd p).length = 6 + p.length ∧
    (buildFrame cmd p)[0]? = some 0x02#8 ∧ (buildFrame cmd p)[1]? = some 0x03#8 ∧
    (buildFrame cmd p)[2]? = some (lenByte p.length) ∧ (buildFrame cmd p)[3]? = some cmd ∧
    (∀ k < p.length, (buildFrame cmd p)[4 + k]? = p[k]?) ∧
    (buildFrame cmd p)[4 + p.length]? = some ((crc16 ((buildFrame cmd p).take (4 + p.length))).truncate 8) ∧
    (buildFrame cmd p)[5 + p.length]? = some ((crc16 ((buildFrame cmd p).take (4 + p.length)) >>> 8).truncate 8)

/-- The write word at 0x01C decodes to TX_DATA_WR. With fewer than 256 bytes queued it appends DATA[7:0]; otherwise it
drops the byte and sets ERR bit 0; in every engine state, and nothing else changes (the frame being sent in
particular). (R131.) -/
def Obligations.TxDataWriteAppendsOrOverflows : Prop :=
  (∀ d : Word, decode (.bus (busWord true 0x01C#12 d)) = .instr (.txDataWr d)) ∧
    ∀ (s : State) (d : Word),
      (s.txq.length < 256 →
        exec (.txDataWr d) s = .next { s with txq := s.txq ++ [d.extractLsb' 0 8], busResp := .done }) ∧
      (256 ≤ s.txq.length →
        exec (.txDataWr d) s = .next { s with err := s.err ||| 0b00001#5, busResp := .done })

/-- The write word at 0x018 decodes to TX_CMD_WR, which stores DATA[7:0], any byte, in any state, and changes nothing
else, the frame being sent in particular; it persists: every instruction but a TX_CMD write, the soft reset and a
command leaves tx_cmd as it was, ENCODE among them, and so do the commands ACK and NAK without payload; with an
empty queue ENCODE of 0x00 or 0xFF builds the ACK or NAK frame. That the other commands are excepted is the model's
choice, since a command is one step whose lines write TX_CMD (logs 9 and 10). (41_encoder.md R132, 30_encoding.md
R97.) -/
def Obligations.TxCmdWriteSetsTheCommandByte : Prop :=
  (∀ d : Word, decode (.bus (busWord true 0x018#12 d)) = .instr (.txCmdWr d)) ∧
    (∀ (s : State) (d : Word), exec (.txCmdWr d) s = .next { s with txCmd := d.extractLsb' 0 8, busResp := .done }) ∧
    (∀ (i : Instr) (s t : State), exec i s = .next t →
      t.txCmd = s.txCmd ∨ (∃ d, i = .txCmdWr d) ∨ (∃ d, i = .ctrlSrst d) ∨
        ((∃ bytes, encode i = .frame bytes) ∧ i ≠ .cmdAck [] ∧ i ≠ .cmdNak [])) ∧
    (∀ (s t : State) (d : Word), s.txState = .idle → s.txq = [] → exec (.goEncode d) s = .next t →
      (s.txCmd = 0x00#8 → t.txFrame = [0x02#8, 0x03#8, 0x06#8, 0x00#8, 0xC2#8, 0x82#8]) ∧
      (s.txCmd = 0xFF#8 → t.txFrame = [0x02#8, 0x03#8, 0x06#8, 0xFF#8, 0xBA#8, 0x8D#8]))

/-- In every Sending state ENCODE, ACK and NAK complete with ERR bit 1 set and every other field but the bus response
unchanged. (R135.) -/
def Obligations.FrameStartWhileSendingOnlySetsBusyError : Prop :=
  ∀ (s : State) (d : Word), s.txState = .sending →
    exec (.goEncode d) s = .next { s with err := s.err ||| 0b00010#5, busResp := .done } ∧
    exec (.goAck d) s = .next { s with err := s.err ||| 0b00010#5, busResp := .done } ∧
    exec (.goNak d) s = .next { s with err := s.err ||| 0b00010#5, busResp := .done }

/-- A TX_GO write with OP 1 decodes to GO_ENCODE. From idle it latches the frame SYNC ADDR LEN CMD queue CRC, at
position 0, Sending, queue empty, tx_done clear, tx_last_crc the CRC of all but the checksum, tx_last_len the LEN
byte, tx_last_total the byte count; tx_cmd and everything else stays. While sending only TX_BUSYERR is set. From
reset with TX_CMD 0x33 it is the POLL frame. (R137.) -/
def Obligations.EncodeLatchesTheFrameOfCommandAndQueue : Prop :=
  (∀ d : Word, d.extractLsb' 0 4 = 0x1#4 → decode (.bus (busWord true 0x020#12 d)) = .instr (.goEncode d)) ∧
    (∀ (s : State) (d : Word), s.txState = .idle →
      exec (.goEncode d) s = .next
        { s with
          txFrame := buildFrame s.txCmd s.txq, txPos := 0, txState := .sending, txq := [], txDone := false,
          txLastCrc := crc16 ([0x02#8, 0x03#8, lenByte s.txq.length, s.txCmd] ++ s.txq),
          txLastLen := lenByte s.txq.length, txLastTotal := BitVec.ofNat 16 (s.txq.length + 6),
          busResp := .done }) ∧
    (∀ (s : State) (d : Word), s.txState = .sending →
      exec (.goEncode d) s = .next { s with err := s.err ||| 0b00010#5, busResp := .done }) ∧
    buildFrame 0x33#8 [] = [0x02#8, 0x03#8, 0x06#8, 0x33#8, 0xDA#8, 0x81#8]

/-- TX_GO with OP 2 and OP 3 decode to GO_ACK and GO_NAK. From idle they latch 02 03 06 00 C2 82 and 02 03 06 FF BA 8D
with checksum 0x82C2 and 0x8DBA, LEN 6, total 6, tx_done clear; the queue, tx_cmd and everything else stays. While
sending only TX_BUSYERR is set. (R138, R139.) -/
def Obligations.AckAndNakLatchTheirFixedFrames : Prop :=
  (∀ d : Word, d.extractLsb' 0 4 = 0x2#4 → decode (.bus (busWord true 0x020#12 d)) = .instr (.goAck d)) ∧
    (∀ d : Word, d.extractLsb' 0 4 = 0x3#4 → decode (.bus (busWord true 0x020#12 d)) = .instr (.goNak d)) ∧
    (∀ (s : State) (d : Word), s.txState = .idle →
      exec (.goAck d) s = .next
        { s with
          txFrame := [0x02#8, 0x03#8, 0x06#8, 0x00#8, 0xC2#8, 0x82#8], txPos := 0, txState := .sending,
          txDone := false, txLastCrc := 0x82C2#16, txLastLen := 0x06#8, txLastTotal := 6#16, busResp := .done } ∧
      exec (.goNak d) s = .next
        { s with
          txFrame := [0x02#8, 0x03#8, 0x06#8, 0xFF#8, 0xBA#8, 0x8D#8], txPos := 0, txState := .sending,
          txDone := false, txLastCrc := 0x8DBA#16, txLastLen := 0x06#8, txLastTotal := 6#16, busResp := .done }) ∧
    (∀ (s : State) (d : Word), s.txState = .sending →
      exec (.goAck d) s = .next { s with err := s.err ||| 0b00010#5, busResp := .done } ∧
      exec (.goNak d) s = .next { s with err := s.err ||| 0b00010#5, busResp := .done })

/-- TX_GO with OP 0, 4 and 5 to 15 decode to their instructions, whatever the engine's state: NOP changes nothing, FLUSH
empties the queue and nothing else (ERR stays), each reserved operation sets ERR bit 2 and nothing else. (R136,
R140, R141.) -/
def Obligations.NopFlushAndReservedOperations : Prop :=
  (∀ d : Word, d.extractLsb' 0 4 = 0x0#4 → decode (.bus (busWord true 0x020#12 d)) = .instr (.goNop d)) ∧
    (∀ d : Word, d.extractLsb' 0 4 = 0x4#4 → decode (.bus (busWord true 0x020#12 d)) = .instr (.goFlush d)) ∧
    (∀ d : Word, 0x5#4 ≤ d.extractLsb' 0 4 →
      ∃ i, decode (.bus (busWord true 0x020#12 d)) = .instr i ∧ (i = .goRsvd5 d ∨ i = .goRsvd67 d ∨ i = .goRsvd8F d)) ∧
    ∀ (s : State) (d : Word),
      exec (.goNop d) s = .next { s with busResp := .done } ∧
      exec (.goFlush d) s = .next { s with txq := [], busResp := .done } ∧
      exec (.goRsvd5 d) s = .next { s with err := s.err ||| 0b00100#5, busResp := .done } ∧
      exec (.goRsvd67 d) s = .next { s with err := s.err ||| 0b00100#5, busResp := .done } ∧
      exec (.goRsvd8F d) s = .next { s with err := s.err ||| 0b00100#5, busResp := .done }

/-- Sending at a position inside the frame, TXE_SEND appends that byte to the line; if it was the last, the engine is
idle at position 0 with no frame and tx_done set; otherwise the position is one more. Nothing else changes. An idle
engine's turn passes without effect (the model's choice, log 6). (41_encoder.md R142, 10_state.md R21.) -/
def Obligations.EngineSendsTheNextCharacter : Prop :=
  (∀ (s : State) (x b : Byte), s.txState = .sending → s.txFrame[s.txPos]? = some b →
      (s.txPos + 1 = s.txFrame.length → exec (.txeSend x) s = .next
        { s with line := s.line ++ [b], txState := .idle, txPos := 0, txFrame := [], txDone := true }) ∧
      (s.txPos + 1 ≠ s.txFrame.length → exec (.txeSend x) s = .next
        { s with line := s.line ++ [b], txPos := s.txPos + 1 })) ∧
    (∀ (s : State) (x : Byte), s.txState = .idle → exec (.txeSend x) s = .next s)

/-- From a Sending state at a position inside its frame, with nothing pending and the reset input released, exactly as
many steps as bytes are left put those bytes, in order, on the line and leave the engine idle with tx_done set and
everything else unchanged. That the engine steps when nothing is pending is log 1. (41_encoder.md R142,
70_reset_and_hazards.md R285, 10_state.md R21.) -/
def Obligations.EveryLatchedFrameIsSentWhole : Prop :=
  ∀ s : State, s.resetIn = false → s.pending = [] → s.txState = .sending → s.txPos < s.txFrame.length →
    runSteps (s.txFrame.length - s.txPos) s = some
      { s with
        line := s.line ++ s.txFrame.drop s.txPos, txState := .idle, txPos := 0, txFrame := [], txDone := true }

/-- The read words decode to their instructions. Each returns its value, zero-extended, TX_LAST_LEN with TOTAL in bits
31:16, the write-only ones 0, and changes nothing. That TX_COUNT and TX_POS wrap at 65536, in states no run reaches,
is the model's choice (log 18). (41_encoder.md R143, 41_encoder.md R144, 41_encoder.md R145, 41_encoder.md R146,
41_encoder.md R147, 41_encoder.md R148.) -/
def Obligations.EncoderRegisterReads : Prop :=
  decode (.bus (busWord false 0x018#12 0#32)) = .instr .txCmdRd ∧
    decode (.bus (busWord false 0x01C#12 0#32)) = .instr .txDataRd ∧
    decode (.bus (busWord false 0x020#12 0#32)) = .instr .txGoRd ∧
    decode (.bus (busWord false 0x024#12 0#32)) = .instr .txCountRd ∧
    decode (.bus (busWord false 0x028#12 0#32)) = .instr .txLastCrcRd ∧
    decode (.bus (busWord false 0x02C#12 0#32)) = .instr .txLastLenRd ∧
    decode (.bus (busWord false 0x044#12 0#32)) = .instr .txPosRd ∧
    ∀ s : State,
      exec .txCmdRd s = .next { s with busResp := .data (s.txCmd.zeroExtend 32) } ∧
      exec .txDataRd s = .next { s with busResp := .data 0x00000000#32 } ∧
      exec .txGoRd s = .next { s with busResp := .data 0x00000000#32 } ∧
      exec .txCountRd s = .next { s with busResp := .data (BitVec.ofNat 32 (s.txq.length % 65536)) } ∧
      exec .txLastCrcRd s = .next { s with busResp := .data (s.txLastCrc.zeroExtend 32) } ∧
      exec .txLastLenRd s = .next
        { s with busResp := .data (s.txLastLen.zeroExtend 32 ||| (s.txLastTotal.zeroExtend 32 <<< 16)) } ∧
      exec .txPosRd s = .next { s with busResp := .data (BitVec.ofNat 32 (s.txPos % 65536)) }

/-- For every command byte and payload of at most 256 bytes the built frame has its own checksum little-endian in its
last two bytes and CRC 0 over all of it; delivered character by character to an enabled, empty receiver and closed
by a gap, STATUS then reads 1 in RX_READY, RX_CRC_OK, RX_SYNC_OK, RX_ADDR_OK and RX_LEN_OK. (R149.) -/
def Obligations.BuiltFrameValidatesAtAReceiver : Prop :=
  ∀ (c : Byte) (p : List Byte), p.length ≤ 256 →
    crc16 ((buildFrame c p).take ((buildFrame c p).length - 2)) =
      (((buildFrame c p).getD ((buildFrame c p).length - 2) 0x00#8).zeroExtend 16 |||
        (((buildFrame c p).getD ((buildFrame c p).length - 1) 0x00#8).zeroExtend 16 <<< 8)) ∧
    crc16 (buildFrame c p) = 0x0000#16 ∧
    ∀ s : State, s.resetIn = false → s.rxEn = true → s.rxState = .idle → s.rxbuf = [] →
      ∃ (t u : State) (v : Word), runLines s (linesPeer (buildFrame c p) ++ [linePeerGap]) = some t ∧
        t.rxbuf = buildFrame c p ∧ t.err = s.err ∧
        exec .statusRd t = .next u ∧ u.busResp = .data v ∧
        v.getLsbD 2 = true ∧ v.getLsbD 4 = true ∧ v.getLsbD 5 = true ∧ v.getLsbD 6 = true ∧ v.getLsbD 7 = true

/-- With rx_en 0, a character with a good or a bad stop bit leaves the state exactly as it was, no flag set; and a frame
being collected is still closed by a gap. (R160.) -/
def Obligations.CharacterIsDiscardedWhileDisabled : Prop :=
  (∀ (s : State) (b : Byte), s.rxEn = false →
      exec (.rxeChar b) s = .next s ∧ exec (.rxeCharFerr b) s = .next s) ∧
    (∀ (s : State) (x : Byte), s.rxEn = false → s.rxState = .collecting →
      exec (.rxeGap x) s = .next { s with rxState := .ready })

/-- Event kinds 1 and 2 decode to the two character instructions. With rx_en 1: when Ready or at 262 bytes the character
is dropped and ERR bit 3 set; otherwise it is appended and the receiver is Collecting; with stop bit 0 ERR bit 4 is
set besides, stored or not. Nothing else changes and nothing is checked per byte. (R161.) -/
def Obligations.CharacterIsStoredOrDroppedWhileEnabled : Prop :=
  (∀ b : Byte, decode (.event (1#2 ++ b)) = .instr (.rxeChar b) ∧ decode (.event (2#2 ++ b)) = .instr (.rxeCharFerr b)) ∧
    ∀ (s : State) (b : Byte), s.rxEn = true →
      ((s.rxState = .ready ∨ s.rxbuf.length = 262) →
        exec (.rxeChar b) s = .next { s with err := s.err ||| 0b01000#5 } ∧
        exec (.rxeCharFerr b) s = .next { s with err := s.err ||| 0b01000#5 ||| 0b10000#5 }) ∧
      (s.rxState ≠ .ready → s.rxbuf.length ≠ 262 →
        exec (.rxeChar b) s = .next { s with rxbuf := s.rxbuf ++ [b], rxState := .collecting } ∧
        exec (.rxeCharFerr b) s = .next
          { s with rxbuf := s.rxbuf ++ [b], rxState := .collecting, err := s.err ||| 0b10000#5 })

/-- Event kind 3 decodes to RXE_GAP. In Collecting it makes the frame Ready; in Idle and Ready it changes nothing. The
gap in force is RX_GAP, a 0 acting as 1. (42_decoder.md R162, 42_decoder.md R163.) -/
def Obligations.GapClosesACollectedFrame : Prop :=
  (∀ b : Byte, decode (.event (3#2 ++ b)) = .instr (.rxeGap b)) ∧
    (∀ (s : State) (x : Byte),
      (s.rxState = .collecting → exec (.rxeGap x) s = .next { s with rxState := .ready }) ∧
      (s.rxState ≠ .collecting → exec (.rxeGap x) s = .next s)) ∧
    (∀ s : State, (s.rxGap = 0#8 → s.gapInForce = 1) ∧ (s.rxGap ≠ 0#8 → s.gapInForce = s.rxGap.toNat))

/-- Ready, with n bytes: RX_CRC_CALC reads CRC16 of all but the last two (0 for n below 2), RX_CRC_RECV the last two
little-endian, RX_CRC_OK their equality for n of 2 or more, RX_SYNC_OK and RX_ADDR_OK the first two bytes, RX_LEN_OK
that n is at least 6 and the LEN byte is n up to 250 and 0 above. Idle or Collecting, all of them read 0. For n of 2
or more the checksum test is CRC16 of all bytes being 0, and 00 00 passes it. (R170, R171, R172, R173.) -/
def Obligations.ValidationResultsOfAReadyFrame : Prop :=
  ∀ s : State, ∃ cc recv v : Word,
    exec .rxCrcCalcRd s = .next { s with busResp := .data cc } ∧
    exec .rxCrcRecvRd s = .next { s with busResp := .data recv } ∧
    exec .statusRd s = .next { s with busResp := .data v } ∧
    (s.rxState = .ready →
      (2 ≤ s.rxbuf.length →
        cc = (crc16 (s.rxbuf.take (s.rxbuf.length - 2))).zeroExtend 32 ∧
        recv = ((s.rxbuf.getD (s.rxbuf.length - 2) 0x00#8).zeroExtend 32 |||
          ((s.rxbuf.getD (s.rxbuf.length - 1) 0x00#8).zeroExtend 32 <<< 8)) ∧
        (v.getLsbD 4 = true ↔ cc = recv) ∧ (v.getLsbD 4 = true ↔ crc16 s.rxbuf = 0x0000#16)) ∧
      (s.rxbuf.length < 2 → cc = 0#32 ∧ recv = 0#32 ∧ v.getLsbD 4 = false) ∧
      (v.getLsbD 5 = true ↔ s.rxbuf[0]? = some 0x02#8) ∧
      (v.getLsbD 6 = true ↔ 2 ≤ s.rxbuf.length ∧ s.rxbuf[1]? = some 0x03#8) ∧
      (v.getLsbD 7 = true ↔ 6 ≤ s.rxbuf.length ∧
        ((s.rxbuf.length ≤ 250 ∧ ((s.rxbuf.getD 2 0x00#8).toNat = s.rxbuf.length)) ∨
         (250 < s.rxbuf.length ∧ (s.rxbuf.getD 2 0x00#8).toNat = 0)))) ∧
    (s.rxState ≠ .ready → cc = 0#32 ∧ recv = 0#32 ∧ v.getLsbD 4 = false ∧ v.getLsbD 5 = false ∧
      v.getLsbD 6 = false ∧ v.getLsbD 7 = false) ∧
    crc16 [] = 0x0000#16 ∧ frameCrcOk [0x00#8, 0x00#8] = true

/-- If two byte lists each pass all four checks, their concatenation passes the checksum, SYNC and ADDR checks; it fails
the LEN check if the first is at most 250 bytes, and passes it too if the first is longer, because its LEN byte is 0
and so is that of every total above 250 (R172). (42_decoder.md R164, 42_decoder.md R172, 40_crc.md R112,
90_conflicts.md C7.) -/
def Obligations.FramesRunTogetherAreCaughtByLenUpTo250 : Prop :=
  ∀ f g : List Byte, frameAccepted f = true → frameAccepted g = true →
    frameCrcOk (f ++ g) = true ∧ frameSyncOk (f ++ g) = true ∧ frameAddrOk (f ++ g) = true ∧
      (f.length ≤ 250 → frameLenOk (f ++ g) = false) ∧ (250 < f.length → frameLenOk (f ++ g) = true)

/-- RX_COUNT at 0x034 reads the byte count, at most 262 within the buffer's capacity; RXBUF[i] at 0x400 + 4 i, for i
from 0 to 261, decodes to the read row of its index range and reads byte i, or 0 past the count; in every state,
changing nothing. That RX_COUNT wraps at 65536, in states no run reaches, is the model's choice (log 18).
(42_decoder.md R174, 42_decoder.md R177.) -/
def Obligations.ReceiverRegisterReads : Prop :=
  decode (.bus (busWord false 0x034#12 0#32)) = .instr .rxCountRd ∧
    (∀ s : State, exec .rxCountRd s = .next { s with busResp := .data (BitVec.ofNat 32 (s.rxbuf.length % 65536)) }) ∧
    (∀ s : State, s.WithinCapacity → ∃ v : Word, exec .rxCountRd s = .next { s with busResp := .data v } ∧
      v.toNat = s.rxbuf.length ∧ v.toNat ≤ 262) ∧
    (∀ i : Nat, i < 262 → decode (.bus (busWord false (BitVec.ofNat 12 (0x400 + 4 * i)) 0#32)) =
      .instr (if i < 256 then .rxbufRd0 i else if i < 260 then .rxbufRd1 i else .rxbufRd2 i)) ∧
    ∀ (s : State) (i : Nat),
      (∀ b, s.rxbuf[i]? = some b →
        exec (.rxbufRd0 i) s = .next { s with busResp := .data (b.zeroExtend 32) } ∧
        exec (.rxbufRd1 i) s = .next { s with busResp := .data (b.zeroExtend 32) } ∧
        exec (.rxbufRd2 i) s = .next { s with busResp := .data (b.zeroExtend 32) }) ∧
      (s.rxbuf.length ≤ i →
        exec (.rxbufRd0 i) s = .next { s with busResp := .data 0#32 } ∧
        exec (.rxbufRd1 i) s = .next { s with busResp := .data 0#32 } ∧
        exec (.rxbufRd2 i) s = .next { s with busResp := .data 0#32 })

/-- The RX_CTRL words decode by DATA[0]. Release, in every state, empties the buffer and makes the receiver Idle, so
that STATUS reads no RX_READY, RX_ACTIVE or result bit, and keeps ERR and everything else; the other write and the
read change nothing. (R176, R179.) -/
def Obligations.ReleaseDiscardsTheFrame : Prop :=
  (∀ d : Word, d.getLsbD 0 = true → decode (.bus (busWord true 0x030#12 d)) = .instr (.rxRelease d)) ∧
    (∀ d : Word, d.getLsbD 0 = false → decode (.bus (busWord true 0x030#12 d)) = .instr (.rxCtrlNop d)) ∧
    decode (.bus (busWord false 0x030#12 0#32)) = .instr .rxCtrlRd ∧
    ∀ (s : State) (d : Word),
      exec (.rxRelease d) s = .next { s with rxbuf := [], rxState := .idle, busResp := .done } ∧
      State.statusValue { s with rxbuf := [], rxState := .idle, busResp := .done } &&& 0xFC#32 = 0#32 ∧
      exec (.rxCtrlNop d) s = .next { s with busResp := .done } ∧
      exec .rxCtrlRd s = .next { s with busResp := .data 0x00000000#32 }

/-- A CTRL write with bit 31 clear decodes to CTRL_WR and sets rx_en to DATA[0] and baud_sel to DATA[1]; faulted becomes
1 exactly when DATA[1] differs from baud_sel while Sending or Collecting (and stays if it was set); nothing else
changes. (R193.) -/
def Obligations.CtrlWriteSetsEnableAndRate : Prop :=
  (∀ d : Word, d.getLsbD 31 = false → decode (.bus (busWord true 0x000#12 d)) = .instr (.ctrlWr d)) ∧
    (∀ d : Word, d.getLsbD 31 = true → decode (.bus (busWord true 0x000#12 d)) = .instr (.ctrlSrst d)) ∧
    ∀ (s : State) (d : Word), ∃ f : Bool,
      exec (.ctrlWr d) s = .next
        { s with rxEn := d.getLsbD 0, baudSel := d.getLsbD 1, faulted := f, busResp := .done } ∧
      (f = true ↔ s.faulted = true ∨
        (d.getLsbD 1 ≠ s.baudSel ∧ (s.txState = .sending ∨ s.rxState = .collecting)))

/-- The read word at 0x004 decodes to STATUS_RD, which changes nothing but the response; bit 0 is Sending, 1 tx_done, 2
Ready, 3 Collecting, 4 to 7 the four checks of a Ready frame, 8 any error, 9 the interrupt level, and bits 31:10 are
0; bits 2 and 3 are never both 1; bits 4 to 7 are 0 unless bit 2 is 1. (R194.) -/
def Obligations.StatusReadShowsEveryBit : Prop :=
  decode (.bus (busWord false 0x004#12 0#32)) = .instr .statusRd ∧
    ∀ s : State, ∃ v : Word, exec .statusRd s = .next { s with busResp := .data v } ∧
      (v.getLsbD 0 = true ↔ s.txState = .sending) ∧ v.getLsbD 1 = s.txDone ∧
      (v.getLsbD 2 = true ↔ s.rxState = .ready) ∧ (v.getLsbD 3 = true ↔ s.rxState = .collecting) ∧
      (v.getLsbD 4 = true ↔ s.rxState = .ready ∧ frameCrcOk s.rxbuf = true) ∧
      (v.getLsbD 5 = true ↔ s.rxState = .ready ∧ s.rxbuf[0]? = some 0x02#8) ∧
      (v.getLsbD 6 = true ↔ s.rxState = .ready ∧ s.rxbuf[1]? = some 0x03#8) ∧
      (v.getLsbD 7 = true ↔ s.rxState = .ready ∧ frameLenOk s.rxbuf = true) ∧
      (v.getLsbD 8 = true ↔ s.err ≠ 0#5) ∧
      (v.getLsbD 9 = true ↔ (s.txDone = true ∧ s.ie.getLsbD 0 = true) ∨
        (s.rxState = .ready ∧ s.ie.getLsbD 1 = true) ∨ (s.err ≠ 0#5 ∧ s.ie.getLsbD 2 = true)) ∧
      v >>> 10 = 0#32 ∧ ¬ (v.getLsbD 2 = true ∧ v.getLsbD 3 = true) ∧
      (v.getLsbD 2 = false → v.getLsbD 4 = false ∧ v.getLsbD 5 = false ∧ v.getLsbD 6 = false ∧ v.getLsbD 7 = false)

/-- The read words decode to their instructions. CTRL reads rx_en and baud_sel in bits 0 and 1, IE and ERR their bits,
RX_GAP the stored value (0 if 0 was written); every other bit reads 0, SRST among them; nothing changes. (R192,
R196, R198, R200.) -/
def Obligations.ControlRegisterReads : Prop :=
  decode (.bus (busWord false 0x000#12 0#32)) = .instr .ctrlRd ∧
    decode (.bus (busWord false 0x008#12 0#32)) = .instr .ieRd ∧
    decode (.bus (busWord false 0x00C#12 0#32)) = .instr .errRd ∧
    decode (.bus (busWord false 0x040#12 0#32)) = .instr .rxGapRd ∧
    ∀ s : State,
      exec .ctrlRd s = .next { s with busResp := .data (BitVec.ofNat 32 (s.rxEn.toNat + 2 * s.baudSel.toNat)) } ∧
      exec .ieRd s = .next { s with busResp := .data (BitVec.ofNat 32 s.ie.toNat) } ∧
      exec .errRd s = .next { s with busResp := .data (BitVec.ofNat 32 s.err.toNat) } ∧
      exec .rxGapRd s = .next { s with busResp := .data (BitVec.ofNat 32 s.rxGap.toNat) }

/-- The write words decode to their instructions. A STATUS write clears tx_done when DATA[1] is 1 and changes nothing
else; an IE write stores DATA[2:0]; an ERR write clears the bits written 1 and sets none; an RX_GAP write stores
DATA[7:0]. (R195, R197, R199, R201.) -/
def Obligations.ControlRegisterWrites : Prop :=
  (∀ d : Word, decode (.bus (busWord true 0x004#12 d)) = .instr (.statusWr d)) ∧
    (∀ d : Word, decode (.bus (busWord true 0x008#12 d)) = .instr (.ieWr d)) ∧
    (∀ d : Word, decode (.bus (busWord true 0x00C#12 d)) = .instr (.errWr d)) ∧
    (∀ d : Word, decode (.bus (busWord true 0x040#12 d)) = .instr (.rxGapWr d)) ∧
    ∀ (s : State) (d : Word),
      exec (.statusWr d) s = .next { s with txDone := s.txDone && !d.getLsbD 1, busResp := .done } ∧
      exec (.ieWr d) s = .next { s with ie := d.extractLsb' 0 3, busResp := .done } ∧
      exec (.errWr d) s = .next { s with err := s.err &&& ~~~(d.extractLsb' 0 5), busResp := .done } ∧
      exec (.rxGapWr d) s = .next { s with rxGap := d.extractLsb' 0 8, busResp := .done }

/-- irq is the formula of R250 in every state. With the reset input released, writing 1 to STATUS.TX_DONE, releasing the
frame and writing 0x1F to ERR, in any state, leaves irq low and the enables as they were; masking every source
leaves it low too. (60_exceptions.md R250, 60_exceptions.md R251, 60_exceptions.md R254.) -/
def Obligations.InterruptFallsWhenItsSourcesAreServed : Prop :=
  (∀ s : State, s.irq = true ↔ (s.txDone = true ∧ s.ie.getLsbD 0 = true) ∨
      (s.rxState = .ready ∧ s.ie.getLsbD 1 = true) ∨ (s.err ≠ 0#5 ∧ s.ie.getLsbD 2 = true)) ∧
    (∀ s : State, s.resetIn = false → ∃ t : State,
      runLines s [writeWord .status 0x2#32, writeWord .rxCtrl 0x1#32, writeWord .err 0x1F#32] = some t ∧
        t.irq = false ∧ t.ie = s.ie) ∧
    (∀ s : State, s.resetIn = false → ∃ t : State,
      runLines s [writeWord .ie 0x0#32] = some t ∧ t.irq = false ∧ t.err = s.err ∧ t.txDone = s.txDone ∧
        t.rxState = s.rxState)

/-- A 32-bit access is a BUS_ERROR exactly when its offset is not a multiple of 4 or names no register (0x048 to 0x3FC,
0x818 to 0xFFC); an access of any other width always is. A BUS_ERROR, from every state, answers the error response
with the access's offset and changes nothing else. (R61, R62.) -/
def Obligations.InadmissibleAccessIsABusError : Prop :=
  (∀ (w : Bool) (off : Offset) (d : Word),
      decode (.bus (busWord w off d)) = .instr (.busError (.word (busWord w off d))) ↔
        (off.toNat % 4 ≠ 0 ∨ (0x048 ≤ off.toNat ∧ off.toNat < 0x400) ∨ 0x818 ≤ off.toNat)) ∧
    (∀ (k : OddWidth) (w : Bool) (off : Offset), decode (.odd k w off) = .instr (.busError (.width k w off))) ∧
    (∀ (s : State) (w : Bool) (off : Offset) (d : Word),
      exec (.busError (.word (busWord w off d))) s = .next { s with busResp := .error off }) ∧
    (∀ (s : State) (k : OddWidth) (w : Bool) (off : Offset),
      exec (.busError (.width k w off)) s = .next { s with busResp := .error off })

/-- BASE is a multiple of 0x1000. For every offset in the window a 32-bit access is its transaction word (data 0 for a
read) and an access of any other width, 8 bits, 16 bits or anything else, is one of another width; an access outside
the window is not the block's. The width classes (0 and 3 bytes, which no bus of the spec has, are put with the wide
ones) and that an access outside the window is no input are the model's choice (log 14). (20_memory.md R60,
20_memory.md R61, 30_encoding.md R81, 00_scope.md R12.) -/
def Obligations.HostAccessReachesItsOffset : Prop :=
  base % 0x1000 = 0 ∧
    (∀ (w : Bool) (off : Offset) (d : Word),
      hostAccess w (base + off.toNat) 4 d = some (.bus (busWord w off (if w = true then d else 0#32))) ∧
      hostAccess w (base + off.toNat) 1 d = some (.odd .byte w off) ∧
      hostAccess w (base + off.toNat) 2 d = some (.odd .half w off) ∧
      (∀ n, n ≠ 4 → n ≠ 1 → n ≠ 2 → hostAccess w (base + off.toNat) n d = some (.odd .wide w off))) ∧
    (∀ (w : Bool) (a n : Nat) (d : Word), (a < base ∨ base + 0x1000 ≤ a) → hostAccess w a n d = none)

/-- Writes of TX_COUNT, TX_LAST_CRC, TX_LAST_LEN, RX_COUNT, RX_CRC_CALC, RX_CRC_RECV, TX_POS and RXBUF[i] (three rows),
with any data, from every state, complete without error and change nothing but the response. (20_memory.md R63,
spec/opcode_table.json.) -/
def Obligations.ReadOnlyRegistersIgnoreWrites : Prop :=
  ∀ (s : State) (i : Nat) (d : Word),
    exec (.txCountWr d) s = .next { s with busResp := .done } ∧
    exec (.txLastCrcWr d) s = .next { s with busResp := .done } ∧
    exec (.txLastLenWr d) s = .next { s with busResp := .done } ∧
    exec (.rxCountWr d) s = .next { s with busResp := .done } ∧
    exec (.rxCrcCalcWr d) s = .next { s with busResp := .done } ∧
    exec (.rxCrcRecvWr d) s = .next { s with busResp := .done } ∧
    exec (.txPosWr d) s = .next { s with busResp := .done } ∧
    exec (.rxbufWr0 i d) s = .next { s with busResp := .done } ∧
    exec (.rxbufWr1 i d) s = .next { s with busResp := .done } ∧
    exec (.rxbufWr2 i d) s = .next { s with busResp := .done }

/-- With the field bits of the register map: the value read of any register is 0 outside its readable fields (so a
write-only register reads 0 and the read changes nothing), and a write of any register steps exactly as the write of
its data with all but the writable fields cleared; a register with no writable field (read-only) changes nothing but
the response. (R63.) -/
def Obligations.ReservedBitsReadZeroAndIgnoreWrites : Prop :=
  (∀ (s : State) (r : Reg), s.regValue r &&& ~~~(readMask r) = 0#32) ∧
    (∀ (s : State) (r : Reg), s.resetIn = false → regExists r = true →
      step (s.place (readWord r)) = .next { s with busResp := .data (s.regValue r) }) ∧
    (∀ (s : State) (r : Reg) (d : Word), s.resetIn = false → regExists r = true →
      ∃ t : State, step (s.place (writeWord r d)) = .next t ∧
        step (s.place (writeWord r (d &&& writeMask r))) = .next t ∧
        (writeMask r = 0#32 → t = { s with busResp := .done }))

/-- With the reset input released, the step of a 32-bit read at any offset, whatever its data bits, changes only the bus
response, to the value of the register at that offset or to the error response; so the bus response, whatever it is,
changes no read's answer, and the same read made again leaves the very same state. That the data bits of a read are
ignored is log 8 (DEDUCED), and that the response is a field of the state is log 3. (10_state.md R24, 20_memory.md
R67, 30_encoding.md R81, 20_memory.md R69.) -/
def Obligations.WindowReadAnswersTheRegisterMap : Prop :=
  ∀ (s : State) (off : Offset) (d : Word), s.resetIn = false →
    step (s.place (.bus (busWord false off d))) = .next
      { s with
        busResp := match s.windowRead off with
          | some v => .data v
          | none => .error off } ∧
    (∀ b : BusResponse, State.windowRead { s with busResp := b } off = s.windowRead off) ∧
    ∀ t : State, step (s.place (.bus (busWord false off d))) = .next t →
      step (t.place (.bus (busWord false off d))) = .next t

/-- Each of the eleven commands, from idle with an empty queue and a payload of at most 256 bytes, completes with the
frame that is its encoding latched and sending, tx_cmd its code, the queue empty, tx_done clear, tx_last_* the
frame's; nothing else changes. ACK and NAK without payload need no empty queue and keep the queue and tx_cmd. That a
command is one step is the model's choice (logs 9 and 10). (44_protocol_commands.md R220 to R230, 30_encoding.md
R97, 41_encoder.md R137, 41_encoder.md R138, 41_encoder.md R139.) -/
def Obligations.CommandLatchesExactlyItsFrame : Prop :=
  (∀ (i : Instr) (code : Byte) (p : List Byte),
      (i = .cmdPoll p ∧ code = 0x33#8) ∨ (i = .cmdReset p ∧ code = 0x30#8) ∨ (i = .cmdGetStatus p ∧ code = 0x31#8) ∨
      (i = .cmdSetSecurity p ∧ code = 0x32#8) ∨ (i = .cmdEnableBillTypes p ∧ code = 0x34#8) ∨
      (i = .cmdStack p ∧ code = 0x35#8) ∨ (i = .cmdReturn p ∧ code = 0x36#8) ∨
      (i = .cmdIdentification p ∧ code = 0x37#8) ∨ (i = .cmdHold p ∧ code = 0x38#8) ∨
      (i = .cmdAck p ∧ code = 0x00#8 ∧ p ≠ []) ∨ (i = .cmdNak p ∧ code = 0xFF#8 ∧ p ≠ []) →
      ∀ s : State, s.txState = .idle → s.txq = [] → p.length ≤ 256 →
        encode i = .frame (buildFrame code p) ∧
        exec i s = .next
        { s with
          txCmd := code, txFrame := buildFrame code p, txPos := 0, txState := .sending, txq := [], txDone := false,
          txLastCrc := crc16 ([0x02#8, 0x03#8, lenByte p.length, code] ++ p),
          txLastLen := lenByte p.length, txLastTotal := BitVec.ofNat 16 (p.length + 6), busResp := .done }) ∧
    (∀ s : State, s.txState = .idle →
      exec (.cmdAck []) s = .next
        { s with
          txFrame := [0x02#8, 0x03#8, 0x06#8, 0x00#8, 0xC2#8, 0x82#8], txPos := 0, txState := .sending,
          txDone := false, txLastCrc := 0x82C2#16, txLastLen := 0x06#8, txLastTotal := 6#16, busResp := .done } ∧
      exec (.cmdNak []) s = .next
        { s with
          txFrame := [0x02#8, 0x03#8, 0x06#8, 0xFF#8, 0xBA#8, 0x8D#8], txPos := 0, txState := .sending,
          txDone := false, txLastCrc := 0x8DBA#16, txLastLen := 0x06#8, txLastTotal := 6#16, busResp := .done })

/-- With the reset input released and from every state (busy, queue full or not), running the SEND lines of the command,
one step a line, leaves the state exec of the command answers; ACK and NAK without payload are the lines SENDACK and
SENDNAK. That a command is one step with the effect of its lines is the model's choice (log 9), and so is which
lines ACK and NAK stand for, by their payload (log 10). (30_encoding.md R97, 44_protocol_commands.md R220 to R230.) -/
def Obligations.CommandIsItsLinesRunOneByOne : Prop :=
  ∀ (s : State) (p : List Byte), s.resetIn = false →
    (∀ t, exec (.cmdPoll p) s = .next t → runLines s (linesSend 0x33#8 p) = some t) ∧
    (∀ t, exec (.cmdReset p) s = .next t → runLines s (linesSend 0x30#8 p) = some t) ∧
    (∀ t, exec (.cmdGetStatus p) s = .next t → runLines s (linesSend 0x31#8 p) = some t) ∧
    (∀ t, exec (.cmdSetSecurity p) s = .next t → runLines s (linesSend 0x32#8 p) = some t) ∧
    (∀ t, exec (.cmdEnableBillTypes p) s = .next t → runLines s (linesSend 0x34#8 p) = some t) ∧
    (∀ t, exec (.cmdStack p) s = .next t → runLines s (linesSend 0x35#8 p) = some t) ∧
    (∀ t, exec (.cmdReturn p) s = .next t → runLines s (linesSend 0x36#8 p) = some t) ∧
    (∀ t, exec (.cmdIdentification p) s = .next t → runLines s (linesSend 0x37#8 p) = some t) ∧
    (∀ t, exec (.cmdHold p) s = .next t → runLines s (linesSend 0x38#8 p) = some t) ∧
    (∀ t, exec (.cmdAck []) s = .next t → runLines s linesSendAck = some t) ∧
    (∀ t, exec (.cmdNak []) s = .next t → runLines s linesSendNak = some t) ∧
    (∀ t, p ≠ [] → exec (.cmdAck p) s = .next t → runLines s (linesSend 0x00#8 p) = some t) ∧
    (∀ t, p ≠ [] → exec (.cmdNak p) s = .next t → runLines s (linesSend 0xFF#8 p) = some t) ∧
    (∃ t, exec (.cmdPoll p) s = .next t)

/-- If TXE_SEND leads from s to t and a character (good or bad stop bit) or a gap leads from s to u, then the receiver
event from t and the engine step from u both give a next state, and it is the same one. (41_encoder.md R142,
42_decoder.md R161, 42_decoder.md R162, 92_eei_decisions.md D25.) -/
def Obligations.TransmitterAndReceiverStepsCommute : Prop :=
  ∀ (s t u : State) (x b : Byte) (e : Instr), (e = .rxeChar b ∨ e = .rxeCharFerr b ∨ e = .rxeGap b) →
    exec (.txeSend x) s = .next t → exec e s = .next u →
    ∃ v, exec e t = .next v ∧ exec (.txeSend x) u = .next v

/-- If a Sending state steps by an instruction other than TXE_SEND and CTRL_SRST, the engine is Sending the same frame
at the same position afterwards and the line is as it was; and TXE_SEND changes the frame only by ending it.
(70_reset_and_hazards.md R282, 20_memory.md R72, 41_encoder.md R142.) -/
def Obligations.FrameBeingSentChangesOnlyByReset : Prop :=
  ∀ (i : Instr) (s t : State), s.txState = .sending → exec i s = .next t →
    ((∀ x, i ≠ .txeSend x) → (∀ d, i ≠ .ctrlSrst d) →
      t.txState = .sending ∧ t.txFrame = s.txFrame ∧ t.txPos = s.txPos ∧ t.line = s.line) ∧
    (∀ x, i = .txeSend x → (t.txState = .sending ∧ t.txFrame = s.txFrame ∧ t.txPos = s.txPos + 1) ∨
      (t.txState = .idle ∧ s.txPos + 1 = s.txFrame.length))

/-- For every instruction that gives a next state: an ERR bit that was set is still set unless the instruction is an ERR
write with a 1 at that bit or the soft reset; a bit newly set is TX_OVF only by a TX_DATA write or a command's
pushes on a full queue, TX_BUSYERR only by a frame start while sending, TX_OPERR only by a reserved operation,
RX_OVF and RX_FERR only by a character with the receiver enabled. That commands stand beside TX_DATA, ENCODE, ACK
and NAK as causes is the model's choice, a command being one step with the effect of its lines (log 9). (10_state.md
R26, 60_exceptions.md R240, 43_control.md R199.) -/
def Obligations.ErrorBitsAreStickyAndSetOnlyByTheirEvents : Prop :=
  ∀ (i : Instr) (s t : State), exec i s = .next t →
    (∀ k < 5, s.err.getLsbD k = true → t.err.getLsbD k = true ∨ (∃ d, i = .errWr d ∧ d.getLsbD k = true) ∨
      ∃ d, i = .ctrlSrst d) ∧
    (s.err.getLsbD 1 = false → t.err.getLsbD 1 = true → s.txState = .sending ∧
      ((∃ d, i = .goEncode d ∨ i = .goAck d ∨ i = .goNak d) ∨ ∃ bytes, encode i = .frame bytes)) ∧
    (s.err.getLsbD 2 = false → t.err.getLsbD 2 = true →
      ∃ d, i = .goRsvd5 d ∨ i = .goRsvd67 d ∨ i = .goRsvd8F d) ∧
    (s.err.getLsbD 3 = false → t.err.getLsbD 3 = true → s.rxEn = true ∧
      (∃ b, i = .rxeChar b ∨ i = .rxeCharFerr b) ∧ (s.rxState = .ready ∨ s.rxbuf.length = 262)) ∧
    (s.err.getLsbD 4 = false → t.err.getLsbD 4 = true → s.rxEn = true ∧ ∃ b, i = .rxeCharFerr b) ∧
    (s.err.getLsbD 0 = false → t.err.getLsbD 0 = true →
      (∃ d, i = .txDataWr d ∧ 256 ≤ s.txq.length) ∨
        ∃ c p, encode i = .frame (buildFrame c p) ∧ 256 < s.txq.length + p.length)

/-- If tx_done goes from 0 to 1 the instruction is TXE_SEND sending the last byte; if it goes from 1 to 0 the
instruction is ENCODE, ACK, NAK or a command from an idle engine (and a frame is being sent afterwards), a STATUS
write with DATA[1] = 1, or the soft reset. That commands stand beside ENCODE, ACK and NAK is the model's choice, a
command being one step with the effect of its lines (logs 9 and 10). (10_state.md R26, 41_encoder.md R137,
43_control.md R195.) -/
def Obligations.TxDoneChangesOnlyAsTheRuleSays : Prop :=
  ∀ (i : Instr) (s t : State), exec i s = .next t →
    (s.txDone = false → t.txDone = true →
      (∃ x, i = .txeSend x) ∧ s.txState = .sending ∧ s.txPos + 1 = s.txFrame.length) ∧
    (s.txDone = true → t.txDone = false →
      (s.txState = .idle ∧ t.txState = .sending ∧
        ((∃ d, i = .goEncode d ∨ i = .goAck d ∨ i = .goNak d) ∨ ∃ bytes, encode i = .frame bytes)) ∨
      (∃ d, i = .statusWr d ∧ d.getLsbD 1 = true) ∨ ∃ d, i = .ctrlSrst d)
end

