-- ==== Sys2Proof/Laws/Bits.lean ====
section
/-! SUPPORT. The fields of a transaction word and of an event word are what it was built from, and a word is its
fields. -/

namespace Sys2Proof.Machine

theorem busWord_toNat (w : Bool) (off : Offset) (data : Word) :
    (busWord w off data).toNat = (w.toNat * 2 ^ 12 + off.toNat) * 2 ^ 32 + data.toNat := by
  have ho := off.isLt
  have hd := data.isLt
  simp only [busWord, BitVec.toNat_append, BitVec.toNat_ofBool]
  rw [← Nat.shiftLeft_add_eq_or_of_lt hd, ← Nat.shiftLeft_add_eq_or_of_lt ho, Nat.shiftLeft_eq, Nat.shiftLeft_eq]

@[simp] theorem busWrite_busWord (w : Bool) (off : Offset) (data : Word) : busWrite (busWord w off data) = w := by
  have ho := off.isLt
  have hd := data.isLt
  rw [busWrite, BitVec.getLsbD, busWord_toNat, Nat.testBit_eq_decide_div_mod_eq]
  cases w <;> simp <;> omega

@[simp] theorem busOff_busWord (w : Bool) (off : Offset) (data : Word) : busOff (busWord w off data) = off := by
  apply BitVec.eq_of_toNat_eq
  have ho := off.isLt
  have hd := data.isLt
  rw [busOff, BitVec.extractLsb'_toNat, busWord_toNat, Nat.shiftRight_eq_div_pow]
  omega

@[simp] theorem busData_busWord (w : Bool) (off : Offset) (data : Word) : busData (busWord w off data) = data := by
  apply BitVec.eq_of_toNat_eq
  have hd := data.isLt
  rw [busData, BitVec.extractLsb'_toNat, busWord_toNat, Nat.shiftRight_eq_div_pow]
  omega

theorem busWord_fields (t : BitVec 45) : busWord (busWrite t) (busOff t) (busData t) = t := by
  apply BitVec.eq_of_toNat_eq
  have ht := t.isLt
  rw [busWord_toNat, busOff, busData, BitVec.extractLsb'_toNat, BitVec.extractLsb'_toNat, busWrite, BitVec.getLsbD,
    Nat.testBit_eq_decide_div_mod_eq, Nat.shiftRight_eq_div_pow, Nat.shiftRight_eq_div_pow]
  norm_num
  rcases Nat.mod_two_eq_zero_or_one (t.toNat / 17592186044416) with h | h <;> simp [h] <;> omega

/-- A mask of the opcode table read field by field. -/
theorem busWord_and (w : Bool) (off : Offset) (data : Word) (a l : Nat) (hl : l < 2 ^ 32) :
    (busWord w off data).toNat &&& (a * 2 ^ 32 + l) =
      ((w.toNat * 2 ^ 12 + off.toNat) &&& a) * 2 ^ 32 + (data.toNat &&& l) := by
  have hd := data.isLt
  have hdl : data.toNat &&& l < 2 ^ 32 := Nat.lt_of_le_of_lt Nat.and_le_left hd
  rw [busWord_toNat]
  apply Nat.eq_of_testBit_eq
  intro k
  simp only [Nat.testBit_and, ← Nat.shiftLeft_eq, Nat.shiftLeft_add_eq_or_of_lt hd, Nat.shiftLeft_add_eq_or_of_lt hl,
    Nat.shiftLeft_add_eq_or_of_lt hdl, Nat.testBit_or, Nat.testBit_shiftLeft]
  by_cases hk : 32 ≤ k
  · simp [hk, Nat.testBit_lt_two_pow (Nat.lt_of_lt_of_le hd (Nat.pow_le_pow_right (by omega) hk)),
      Nat.testBit_lt_two_pow (Nat.lt_of_lt_of_le hl (Nat.pow_le_pow_right (by omega) hk))]
  · simp [hk]

@[simp] theorem eventKind_eventWord (k : BitVec 2) (b : Byte) : eventKind (eventWord k b) = k := by
  apply BitVec.eq_of_toNat_eq
  have hb := b.isLt
  have hk := k.isLt
  rw [eventKind, BitVec.extractLsb'_toNat, eventWord, BitVec.toNat_append, ← Nat.shiftLeft_add_eq_or_of_lt hb,
    Nat.shiftLeft_eq, Nat.shiftRight_eq_div_pow]
  omega

@[simp] theorem eventByte_eventWord (k : BitVec 2) (b : Byte) : eventByte (eventWord k b) = b := by
  apply BitVec.eq_of_toNat_eq
  have hb := b.isLt
  rw [eventByte, BitVec.extractLsb'_toNat, eventWord, BitVec.toNat_append, ← Nat.shiftLeft_add_eq_or_of_lt hb,
    Nat.shiftLeft_eq, Nat.shiftRight_eq_div_pow]
  omega

theorem eventWord_toNat (k : BitVec 2) (b : Byte) : (eventWord k b).toNat = k.toNat * 2 ^ 8 + b.toNat := by
  have hb := b.isLt
  rw [eventWord, BitVec.toNat_append, ← Nat.shiftLeft_add_eq_or_of_lt hb, Nat.shiftLeft_eq]

theorem eventWord_fields (e : BitVec 10) : eventWord (eventKind e) (eventByte e) = e := by
  apply BitVec.eq_of_toNat_eq
  have he := e.isLt
  rw [eventWord_toNat, eventKind, eventByte, BitVec.extractLsb'_toNat, BitVec.extractLsb'_toNat,
    Nat.shiftRight_eq_div_pow, Nat.shiftRight_eq_div_pow]
  omega

/-- `DATA[3:0]` as a number. -/
theorem goOp_toNat (data : Word) : (goOp data).toNat = data.toNat % 16 := by
  rw [goOp, BitVec.extractLsb'_toNat, Nat.shiftRight_zero]

end Sys2Proof.Machine
end

