-- ==== Sys2Proof/Laws/Frame.lean ====
section
/-! SUPPORT. Basic facts of the CRC fold, the frame and the checksum bytes. -/

namespace Sys2Proof.Machine

open Sys2Proof.Config

theorem crcFold_append (c : Half) (xs ys : List Byte) : crcFold c (xs ++ ys) = crcFold (crcFold c xs) ys := by
  induction xs generalizing c with
  | nil => rfl
  | cons x xs ih => exact ih _

theorem crcFold_eq_foldl (c : Half) (xs : List Byte) : crcFold c xs = xs.foldl crcStep c := by
  induction xs generalizing c with
  | nil => rfl
  | cons x xs ih => exact ih _

/-- The low and the high byte of a half-word give it back. -/
theorem halfOf_lo_hi (h : Half) : halfOf (lo h) (hi h) = h := by
  ext i hi'
  simp only [halfOf, lo, hi]
  rcases Nat.lt_or_ge i 8 with h8 | h8
  · simp [h8, BitVec.getLsbD_eq_getElem hi']
  · have : i - 8 < 8 := by omega
    simp [h8, this, Nat.not_lt.mpr h8, BitVec.getLsbD_eq_getElem hi']

@[simp] theorem frameHead_length (cmd : Byte) (p : List Byte) : (frameHead cmd p).length = p.length + 4 := rfl

@[simp] theorem checksumBytes_length (xs : List Byte) : (checksumBytes xs).length = 2 := rfl

@[simp] theorem buildFrame_length (cmd : Byte) (p : List Byte) : (buildFrame cmd p).length = p.length + 6 := by
  simp [buildFrame]

/-- What a built frame's checksum covers is its head. -/
@[simp] theorem frameBody_buildFrame (cmd : Byte) (p : List Byte) : frameBody (buildFrame cmd p) = frameHead cmd p := by
  rw [frameBody, buildFrame_length, buildFrame]
  exact List.take_left' (by simp)

end Sys2Proof.Machine
end

