-- ==== Sys2Proof/Laws/Decode.lean ====
section
/-! SUPPORT. What the decoder answers on the words the encoder writes: the register map read both ways, and frames. -/

namespace Sys2Proof.Machine

open Sys2Proof.Config

theorem rxbuf_offset_toNat (i : Nat) (h : i < 262) : (regOffset (.rxbuf i)).toNat = 0x400 + 4 * i := by
  simp only [regOffset, rxbufBase, BitVec.toNat_ofNat]
  omega

/-- The window's offset of a byte index is that byte's register. -/
theorem regAt_rxbuf (i : Nat) (h : i < 262) : regAt (regOffset (.rxbuf i)) = some (.rxbuf i) := by
  have hn := rxbuf_offset_toNat i h
  have key : ∀ k : Nat, k < 0x400 → regOffset (.rxbuf i) ≠ BitVec.ofNat 12 k := by
    intro k hk e
    have := congrArg BitVec.toNat e
    rw [hn, BitVec.toNat_ofNat] at this; omega
  have hb : inRxbuf (regOffset (.rxbuf i)) = true := by
    simp only [inRxbuf, hn, rxbufBase, rxbufSize, Bool.and_eq_true, decide_eq_true_eq]; omega
  simp only [regAt]
  repeat rw [if_neg (key _ (by decide))]
  rw [if_pos hb, hn]
  simp [rxbufBase]

/-- An existing register stands at its offset. -/
theorem regAt_regOffset (r : Reg) (h : regExists r = true) : regAt (regOffset r) = some r := by
  cases r <;> first | rfl | exact regAt_rxbuf _ (by simpa [regExists] using h)

/-- A register's read word decodes to its read. -/
theorem decode_readWord (r : Reg) (h : regExists r = true) :
    decode (readWord r) = .instr (decodeRead r) := by
  simp [decode, readWord, decodeBus, regAt_regOffset r h]

/-- A register's write word decodes to its write. -/
theorem decode_writeWord (r : Reg) (d : Word) (h : regExists r = true) :
    decode (writeWord r d) = .instr (decodeWrite d r) := by
  simp [decode, writeWord, decodeBus, regAt_regOffset r h]

theorem take_payload (cmd : Byte) (p : List Byte) :
    (p ++ checksumBytes (frameHead cmd p)).take
      ((p ++ checksumBytes (frameHead cmd p)).length - 2) = p := by
  simp

/-- A built frame decodes to the command its code names. -/
theorem decodeFrame_build (cmd : Byte) (p : List Byte) (i : Instr) (h : p.length ≤ 256) (hc : commandOf cmd p = some i) :
    decodeFrame (buildFrame cmd p) = .instr i := by
  have e : buildFrame cmd p = sync :: addr :: lenByte p.length :: cmd :: (p ++ checksumBytes (frameHead cmd p)) := rfl
  rw [e]
  simp only [decodeFrame, take_payload]
  rw [if_neg (by simp), if_neg (by simp; omega), if_neg (by simp), if_neg (by simp), if_neg (by simp),
    if_neg (by simp [e]), hc]

/-- An offset that names a register is that register's offset, and the register exists. -/
theorem regAt_some {off : Offset} {r : Reg} (h : regAt off = some r) : regOffset r = off ∧ regExists r = true := by
  simp only [regAt] at h
  iterate 18
    obtain ⟨e, h⟩ | ⟨-, h⟩ := ite_eq_iff.mp h
    · cases h; subst e; exact ⟨rfl, rfl⟩
  obtain ⟨hb, h⟩ | ⟨-, h⟩ := ite_eq_iff.mp h
  case inr => cases h
  cases h
  simp only [inRxbuf, rxbufBase, rxbufSize, Bool.and_eq_true, decide_eq_true_eq] at hb
  constructor
  · apply BitVec.eq_of_toNat_eq
    simp only [regOffset, rxbufBase, BitVec.toNat_ofNat]; have := off.isLt; omega
  · simp only [regExists, rxbufBase, rxbufSize, decide_eq_true_eq]; omega

/-- A read the decoder answers is written as the register's read word. -/
theorem encode_decodeRead (r : Reg) : encode (decodeRead r) = readWord r := by
  cases r <;> try rfl
  simp only [decodeRead, decodeRxbufRead]; split; rfl; split <;> rfl

/-- A write the decoder answers is written as the register's write word. -/
theorem encode_decodeWrite (r : Reg) (d : Word) : encode (decodeWrite d r) = writeWord r d := by
  cases r <;> try rfl
  · simp only [decodeWrite, decodeCtrlWrite]; split <;> rfl
  · simp only [decodeWrite, decodeGo]; repeat' split
    all_goals rfl
  · simp only [decodeWrite, decodeRxCtrlWrite]; split <;> rfl
  · simp only [decodeWrite, decodeRxbufWrite]; split; rfl; split <;> rfl

/-- A command is written as the frame of its code. -/
theorem encode_commandOf {c : Byte} {p : List Byte} {i : Instr} (h : commandOf c p = some i) :
    encode i = .frame (buildFrame c p) := by
  unfold commandOf at h
  repeat' split at h
  all_goals first
    | (cases h; simp_all [encode])
    | cases h

/-- If bytes decode to a command, they are the frame of a listed code and a payload the queue can hold. -/
theorem decodeFrame_cases {bs : List Byte} {i : Instr} (h : decodeFrame bs = .instr i) :
   ∃ c p, bs = buildFrame c p ∧ p.length ≤ 256 ∧ commandOf c p = some i := by
  unfold decodeFrame at h
  split at h
  · rename_i s a l cmd rest
    simp only at h
    repeat' split at h
    all_goals first | (cases h; done) | skip
    rename_i h1 h2 h3 h4 h5 h6 _ j hj
    cases h
    exact ⟨cmd, _, not_not.mp h6, by simpa [txqDepth] using h2, hj⟩
  · cases h

end Sys2Proof.Machine
end

