-- ==== Sys2Proof/Laws/State.lean ====
section
/-! SUPPORT. What each update leaves in each field: one lemma per field per update. -/

namespace Sys2Proof.Machine

variable (s : State)

@[simp] theorem State.respond_rxEn (r : BusResponse) : (s.respond r).rxEn = s.rxEn := rfl
@[simp] theorem State.respond_baudSel (r : BusResponse) : (s.respond r).baudSel = s.baudSel := rfl
@[simp] theorem State.respond_ie (r : BusResponse) : (s.respond r).ie = s.ie := rfl
@[simp] theorem State.respond_err (r : BusResponse) : (s.respond r).err = s.err := rfl
@[simp] theorem State.respond_txDone (r : BusResponse) : (s.respond r).txDone = s.txDone := rfl
@[simp] theorem State.respond_crcAcc (r : BusResponse) : (s.respond r).crcAcc = s.crcAcc := rfl
@[simp] theorem State.respond_txCmd (r : BusResponse) : (s.respond r).txCmd = s.txCmd := rfl
@[simp] theorem State.respond_txq (r : BusResponse) : (s.respond r).txq = s.txq := rfl
@[simp] theorem State.respond_txState (r : BusResponse) : (s.respond r).txState = s.txState := rfl
@[simp] theorem State.respond_txFrame (r : BusResponse) : (s.respond r).txFrame = s.txFrame := rfl
@[simp] theorem State.respond_txPos (r : BusResponse) : (s.respond r).txPos = s.txPos := rfl
@[simp] theorem State.respond_txLastCrc (r : BusResponse) : (s.respond r).txLastCrc = s.txLastCrc := rfl
@[simp] theorem State.respond_txLastLen (r : BusResponse) : (s.respond r).txLastLen = s.txLastLen := rfl
@[simp] theorem State.respond_txLastTotal (r : BusResponse) : (s.respond r).txLastTotal = s.txLastTotal := rfl
@[simp] theorem State.respond_rxState (r : BusResponse) : (s.respond r).rxState = s.rxState := rfl
@[simp] theorem State.respond_rxbuf (r : BusResponse) : (s.respond r).rxbuf = s.rxbuf := rfl
@[simp] theorem State.respond_rxGap (r : BusResponse) : (s.respond r).rxGap = s.rxGap := rfl
@[simp] theorem State.respond_faulted (r : BusResponse) : (s.respond r).faulted = s.faulted := rfl
@[simp] theorem State.respond_resetIn (r : BusResponse) : (s.respond r).resetIn = s.resetIn := rfl
@[simp] theorem State.respond_busResp (r : BusResponse) : (s.respond r).busResp = r := rfl
@[simp] theorem State.respond_line (r : BusResponse) : (s.respond r).line = s.line := rfl
@[simp] theorem State.respond_pending (r : BusResponse) : (s.respond r).pending = s.pending := rfl

@[simp] theorem State.withPending_rxEn (p : List Input) : (s.withPending p).rxEn = s.rxEn := rfl
@[simp] theorem State.withPending_baudSel (p : List Input) : (s.withPending p).baudSel = s.baudSel := rfl
@[simp] theorem State.withPending_ie (p : List Input) : (s.withPending p).ie = s.ie := rfl
@[simp] theorem State.withPending_err (p : List Input) : (s.withPending p).err = s.err := rfl
@[simp] theorem State.withPending_txDone (p : List Input) : (s.withPending p).txDone = s.txDone := rfl
@[simp] theorem State.withPending_crcAcc (p : List Input) : (s.withPending p).crcAcc = s.crcAcc := rfl
@[simp] theorem State.withPending_txCmd (p : List Input) : (s.withPending p).txCmd = s.txCmd := rfl
@[simp] theorem State.withPending_txq (p : List Input) : (s.withPending p).txq = s.txq := rfl
@[simp] theorem State.withPending_txState (p : List Input) : (s.withPending p).txState = s.txState := rfl
@[simp] theorem State.withPending_txFrame (p : List Input) : (s.withPending p).txFrame = s.txFrame := rfl
@[simp] theorem State.withPending_txPos (p : List Input) : (s.withPending p).txPos = s.txPos := rfl
@[simp] theorem State.withPending_txLastCrc (p : List Input) : (s.withPending p).txLastCrc = s.txLastCrc := rfl
@[simp] theorem State.withPending_txLastLen (p : List Input) : (s.withPending p).txLastLen = s.txLastLen := rfl
@[simp] theorem State.withPending_txLastTotal (p : List Input) : (s.withPending p).txLastTotal = s.txLastTotal := rfl
@[simp] theorem State.withPending_rxState (p : List Input) : (s.withPending p).rxState = s.rxState := rfl
@[simp] theorem State.withPending_rxbuf (p : List Input) : (s.withPending p).rxbuf = s.rxbuf := rfl
@[simp] theorem State.withPending_rxGap (p : List Input) : (s.withPending p).rxGap = s.rxGap := rfl
@[simp] theorem State.withPending_faulted (p : List Input) : (s.withPending p).faulted = s.faulted := rfl
@[simp] theorem State.withPending_resetIn (p : List Input) : (s.withPending p).resetIn = s.resetIn := rfl
@[simp] theorem State.withPending_busResp (p : List Input) : (s.withPending p).busResp = s.busResp := rfl
@[simp] theorem State.withPending_line (p : List Input) : (s.withPending p).line = s.line := rfl
@[simp] theorem State.withPending_pending (p : List Input) : (s.withPending p).pending = p := rfl

@[simp] theorem State.setErr_rxEn (m : BitVec 5) : (s.setErr m).rxEn = s.rxEn := rfl
@[simp] theorem State.setErr_baudSel (m : BitVec 5) : (s.setErr m).baudSel = s.baudSel := rfl
@[simp] theorem State.setErr_ie (m : BitVec 5) : (s.setErr m).ie = s.ie := rfl
@[simp] theorem State.setErr_err (m : BitVec 5) : (s.setErr m).err = s.err ||| m := rfl
@[simp] theorem State.setErr_txDone (m : BitVec 5) : (s.setErr m).txDone = s.txDone := rfl
@[simp] theorem State.setErr_crcAcc (m : BitVec 5) : (s.setErr m).crcAcc = s.crcAcc := rfl
@[simp] theorem State.setErr_txCmd (m : BitVec 5) : (s.setErr m).txCmd = s.txCmd := rfl
@[simp] theorem State.setErr_txq (m : BitVec 5) : (s.setErr m).txq = s.txq := rfl
@[simp] theorem State.setErr_txState (m : BitVec 5) : (s.setErr m).txState = s.txState := rfl
@[simp] theorem State.setErr_txFrame (m : BitVec 5) : (s.setErr m).txFrame = s.txFrame := rfl
@[simp] theorem State.setErr_txPos (m : BitVec 5) : (s.setErr m).txPos = s.txPos := rfl
@[simp] theorem State.setErr_txLastCrc (m : BitVec 5) : (s.setErr m).txLastCrc = s.txLastCrc := rfl
@[simp] theorem State.setErr_txLastLen (m : BitVec 5) : (s.setErr m).txLastLen = s.txLastLen := rfl
@[simp] theorem State.setErr_txLastTotal (m : BitVec 5) : (s.setErr m).txLastTotal = s.txLastTotal := rfl
@[simp] theorem State.setErr_rxState (m : BitVec 5) : (s.setErr m).rxState = s.rxState := rfl
@[simp] theorem State.setErr_rxbuf (m : BitVec 5) : (s.setErr m).rxbuf = s.rxbuf := rfl
@[simp] theorem State.setErr_rxGap (m : BitVec 5) : (s.setErr m).rxGap = s.rxGap := rfl
@[simp] theorem State.setErr_faulted (m : BitVec 5) : (s.setErr m).faulted = s.faulted := rfl
@[simp] theorem State.setErr_resetIn (m : BitVec 5) : (s.setErr m).resetIn = s.resetIn := rfl
@[simp] theorem State.setErr_busResp (m : BitVec 5) : (s.setErr m).busResp = s.busResp := rfl
@[simp] theorem State.setErr_line (m : BitVec 5) : (s.setErr m).line = s.line := rfl
@[simp] theorem State.setErr_pending (m : BitVec 5) : (s.setErr m).pending = s.pending := rfl

@[simp] theorem State.clearErr_rxEn (m : BitVec 5) : (s.clearErr m).rxEn = s.rxEn := rfl
@[simp] theorem State.clearErr_baudSel (m : BitVec 5) : (s.clearErr m).baudSel = s.baudSel := rfl
@[simp] theorem State.clearErr_ie (m : BitVec 5) : (s.clearErr m).ie = s.ie := rfl
@[simp] theorem State.clearErr_err (m : BitVec 5) : (s.clearErr m).err = s.err &&& ~~~m := rfl
@[simp] theorem State.clearErr_txDone (m : BitVec 5) : (s.clearErr m).txDone = s.txDone := rfl
@[simp] theorem State.clearErr_crcAcc (m : BitVec 5) : (s.clearErr m).crcAcc = s.crcAcc := rfl
@[simp] theorem State.clearErr_txCmd (m : BitVec 5) : (s.clearErr m).txCmd = s.txCmd := rfl
@[simp] theorem State.clearErr_txq (m : BitVec 5) : (s.clearErr m).txq = s.txq := rfl
@[simp] theorem State.clearErr_txState (m : BitVec 5) : (s.clearErr m).txState = s.txState := rfl
@[simp] theorem State.clearErr_txFrame (m : BitVec 5) : (s.clearErr m).txFrame = s.txFrame := rfl
@[simp] theorem State.clearErr_txPos (m : BitVec 5) : (s.clearErr m).txPos = s.txPos := rfl
@[simp] theorem State.clearErr_txLastCrc (m : BitVec 5) : (s.clearErr m).txLastCrc = s.txLastCrc := rfl
@[simp] theorem State.clearErr_txLastLen (m : BitVec 5) : (s.clearErr m).txLastLen = s.txLastLen := rfl
@[simp] theorem State.clearErr_txLastTotal (m : BitVec 5) : (s.clearErr m).txLastTotal = s.txLastTotal := rfl
@[simp] theorem State.clearErr_rxState (m : BitVec 5) : (s.clearErr m).rxState = s.rxState := rfl
@[simp] theorem State.clearErr_rxbuf (m : BitVec 5) : (s.clearErr m).rxbuf = s.rxbuf := rfl
@[simp] theorem State.clearErr_rxGap (m : BitVec 5) : (s.clearErr m).rxGap = s.rxGap := rfl
@[simp] theorem State.clearErr_faulted (m : BitVec 5) : (s.clearErr m).faulted = s.faulted := rfl
@[simp] theorem State.clearErr_resetIn (m : BitVec 5) : (s.clearErr m).resetIn = s.resetIn := rfl
@[simp] theorem State.clearErr_busResp (m : BitVec 5) : (s.clearErr m).busResp = s.busResp := rfl
@[simp] theorem State.clearErr_line (m : BitVec 5) : (s.clearErr m).line = s.line := rfl
@[simp] theorem State.clearErr_pending (m : BitVec 5) : (s.clearErr m).pending = s.pending := rfl

@[simp] theorem State.raiseFault_rxEn : (s.raiseFault).rxEn = s.rxEn := rfl
@[simp] theorem State.raiseFault_baudSel : (s.raiseFault).baudSel = s.baudSel := rfl
@[simp] theorem State.raiseFault_ie : (s.raiseFault).ie = s.ie := rfl
@[simp] theorem State.raiseFault_err : (s.raiseFault).err = s.err := rfl
@[simp] theorem State.raiseFault_txDone : (s.raiseFault).txDone = s.txDone := rfl
@[simp] theorem State.raiseFault_crcAcc : (s.raiseFault).crcAcc = s.crcAcc := rfl
@[simp] theorem State.raiseFault_txCmd : (s.raiseFault).txCmd = s.txCmd := rfl
@[simp] theorem State.raiseFault_txq : (s.raiseFault).txq = s.txq := rfl
@[simp] theorem State.raiseFault_txState : (s.raiseFault).txState = s.txState := rfl
@[simp] theorem State.raiseFault_txFrame : (s.raiseFault).txFrame = s.txFrame := rfl
@[simp] theorem State.raiseFault_txPos : (s.raiseFault).txPos = s.txPos := rfl
@[simp] theorem State.raiseFault_txLastCrc : (s.raiseFault).txLastCrc = s.txLastCrc := rfl
@[simp] theorem State.raiseFault_txLastLen : (s.raiseFault).txLastLen = s.txLastLen := rfl
@[simp] theorem State.raiseFault_txLastTotal : (s.raiseFault).txLastTotal = s.txLastTotal := rfl
@[simp] theorem State.raiseFault_rxState : (s.raiseFault).rxState = s.rxState := rfl
@[simp] theorem State.raiseFault_rxbuf : (s.raiseFault).rxbuf = s.rxbuf := rfl
@[simp] theorem State.raiseFault_rxGap : (s.raiseFault).rxGap = s.rxGap := rfl
@[simp] theorem State.raiseFault_faulted : (s.raiseFault).faulted = true := rfl
@[simp] theorem State.raiseFault_resetIn : (s.raiseFault).resetIn = s.resetIn := rfl
@[simp] theorem State.raiseFault_busResp : (s.raiseFault).busResp = s.busResp := rfl
@[simp] theorem State.raiseFault_line : (s.raiseFault).line = s.line := rfl
@[simp] theorem State.raiseFault_pending : (s.raiseFault).pending = s.pending := rfl

@[simp] theorem State.setCtrl_rxEn (en sel : Bool) : (s.setCtrl en sel).rxEn = en := rfl
@[simp] theorem State.setCtrl_baudSel (en sel : Bool) : (s.setCtrl en sel).baudSel = sel := rfl
@[simp] theorem State.setCtrl_ie (en sel : Bool) : (s.setCtrl en sel).ie = s.ie := rfl
@[simp] theorem State.setCtrl_err (en sel : Bool) : (s.setCtrl en sel).err = s.err := rfl
@[simp] theorem State.setCtrl_txDone (en sel : Bool) : (s.setCtrl en sel).txDone = s.txDone := rfl
@[simp] theorem State.setCtrl_crcAcc (en sel : Bool) : (s.setCtrl en sel).crcAcc = s.crcAcc := rfl
@[simp] theorem State.setCtrl_txCmd (en sel : Bool) : (s.setCtrl en sel).txCmd = s.txCmd := rfl
@[simp] theorem State.setCtrl_txq (en sel : Bool) : (s.setCtrl en sel).txq = s.txq := rfl
@[simp] theorem State.setCtrl_txState (en sel : Bool) : (s.setCtrl en sel).txState = s.txState := rfl
@[simp] theorem State.setCtrl_txFrame (en sel : Bool) : (s.setCtrl en sel).txFrame = s.txFrame := rfl
@[simp] theorem State.setCtrl_txPos (en sel : Bool) : (s.setCtrl en sel).txPos = s.txPos := rfl
@[simp] theorem State.setCtrl_txLastCrc (en sel : Bool) : (s.setCtrl en sel).txLastCrc = s.txLastCrc := rfl
@[simp] theorem State.setCtrl_txLastLen (en sel : Bool) : (s.setCtrl en sel).txLastLen = s.txLastLen := rfl
@[simp] theorem State.setCtrl_txLastTotal (en sel : Bool) : (s.setCtrl en sel).txLastTotal = s.txLastTotal := rfl
@[simp] theorem State.setCtrl_rxState (en sel : Bool) : (s.setCtrl en sel).rxState = s.rxState := rfl
@[simp] theorem State.setCtrl_rxbuf (en sel : Bool) : (s.setCtrl en sel).rxbuf = s.rxbuf := rfl
@[simp] theorem State.setCtrl_rxGap (en sel : Bool) : (s.setCtrl en sel).rxGap = s.rxGap := rfl
@[simp] theorem State.setCtrl_faulted (en sel : Bool) : (s.setCtrl en sel).faulted = s.faulted := rfl
@[simp] theorem State.setCtrl_resetIn (en sel : Bool) : (s.setCtrl en sel).resetIn = s.resetIn := rfl
@[simp] theorem State.setCtrl_busResp (en sel : Bool) : (s.setCtrl en sel).busResp = s.busResp := rfl
@[simp] theorem State.setCtrl_line (en sel : Bool) : (s.setCtrl en sel).line = s.line := rfl
@[simp] theorem State.setCtrl_pending (en sel : Bool) : (s.setCtrl en sel).pending = s.pending := rfl

@[simp] theorem State.setIe_rxEn (v : BitVec 3) : (s.setIe v).rxEn = s.rxEn := rfl
@[simp] theorem State.setIe_baudSel (v : BitVec 3) : (s.setIe v).baudSel = s.baudSel := rfl
@[simp] theorem State.setIe_ie (v : BitVec 3) : (s.setIe v).ie = v := rfl
@[simp] theorem State.setIe_err (v : BitVec 3) : (s.setIe v).err = s.err := rfl
@[simp] theorem State.setIe_txDone (v : BitVec 3) : (s.setIe v).txDone = s.txDone := rfl
@[simp] theorem State.setIe_crcAcc (v : BitVec 3) : (s.setIe v).crcAcc = s.crcAcc := rfl
@[simp] theorem State.setIe_txCmd (v : BitVec 3) : (s.setIe v).txCmd = s.txCmd := rfl
@[simp] theorem State.setIe_txq (v : BitVec 3) : (s.setIe v).txq = s.txq := rfl
@[simp] theorem State.setIe_txState (v : BitVec 3) : (s.setIe v).txState = s.txState := rfl
@[simp] theorem State.setIe_txFrame (v : BitVec 3) : (s.setIe v).txFrame = s.txFrame := rfl
@[simp] theorem State.setIe_txPos (v : BitVec 3) : (s.setIe v).txPos = s.txPos := rfl
@[simp] theorem State.setIe_txLastCrc (v : BitVec 3) : (s.setIe v).txLastCrc = s.txLastCrc := rfl
@[simp] theorem State.setIe_txLastLen (v : BitVec 3) : (s.setIe v).txLastLen = s.txLastLen := rfl
@[simp] theorem State.setIe_txLastTotal (v : BitVec 3) : (s.setIe v).txLastTotal = s.txLastTotal := rfl
@[simp] theorem State.setIe_rxState (v : BitVec 3) : (s.setIe v).rxState = s.rxState := rfl
@[simp] theorem State.setIe_rxbuf (v : BitVec 3) : (s.setIe v).rxbuf = s.rxbuf := rfl
@[simp] theorem State.setIe_rxGap (v : BitVec 3) : (s.setIe v).rxGap = s.rxGap := rfl
@[simp] theorem State.setIe_faulted (v : BitVec 3) : (s.setIe v).faulted = s.faulted := rfl
@[simp] theorem State.setIe_resetIn (v : BitVec 3) : (s.setIe v).resetIn = s.resetIn := rfl
@[simp] theorem State.setIe_busResp (v : BitVec 3) : (s.setIe v).busResp = s.busResp := rfl
@[simp] theorem State.setIe_line (v : BitVec 3) : (s.setIe v).line = s.line := rfl
@[simp] theorem State.setIe_pending (v : BitVec 3) : (s.setIe v).pending = s.pending := rfl

@[simp] theorem State.clearTxDone_rxEn : (s.clearTxDone).rxEn = s.rxEn := rfl
@[simp] theorem State.clearTxDone_baudSel : (s.clearTxDone).baudSel = s.baudSel := rfl
@[simp] theorem State.clearTxDone_ie : (s.clearTxDone).ie = s.ie := rfl
@[simp] theorem State.clearTxDone_err : (s.clearTxDone).err = s.err := rfl
@[simp] theorem State.clearTxDone_txDone : (s.clearTxDone).txDone = false := rfl
@[simp] theorem State.clearTxDone_crcAcc : (s.clearTxDone).crcAcc = s.crcAcc := rfl
@[simp] theorem State.clearTxDone_txCmd : (s.clearTxDone).txCmd = s.txCmd := rfl
@[simp] theorem State.clearTxDone_txq : (s.clearTxDone).txq = s.txq := rfl
@[simp] theorem State.clearTxDone_txState : (s.clearTxDone).txState = s.txState := rfl
@[simp] theorem State.clearTxDone_txFrame : (s.clearTxDone).txFrame = s.txFrame := rfl
@[simp] theorem State.clearTxDone_txPos : (s.clearTxDone).txPos = s.txPos := rfl
@[simp] theorem State.clearTxDone_txLastCrc : (s.clearTxDone).txLastCrc = s.txLastCrc := rfl
@[simp] theorem State.clearTxDone_txLastLen : (s.clearTxDone).txLastLen = s.txLastLen := rfl
@[simp] theorem State.clearTxDone_txLastTotal : (s.clearTxDone).txLastTotal = s.txLastTotal := rfl
@[simp] theorem State.clearTxDone_rxState : (s.clearTxDone).rxState = s.rxState := rfl
@[simp] theorem State.clearTxDone_rxbuf : (s.clearTxDone).rxbuf = s.rxbuf := rfl
@[simp] theorem State.clearTxDone_rxGap : (s.clearTxDone).rxGap = s.rxGap := rfl
@[simp] theorem State.clearTxDone_faulted : (s.clearTxDone).faulted = s.faulted := rfl
@[simp] theorem State.clearTxDone_resetIn : (s.clearTxDone).resetIn = s.resetIn := rfl
@[simp] theorem State.clearTxDone_busResp : (s.clearTxDone).busResp = s.busResp := rfl
@[simp] theorem State.clearTxDone_line : (s.clearTxDone).line = s.line := rfl
@[simp] theorem State.clearTxDone_pending : (s.clearTxDone).pending = s.pending := rfl

@[simp] theorem State.setCrc_rxEn (c : Half) : (s.setCrc c).rxEn = s.rxEn := rfl
@[simp] theorem State.setCrc_baudSel (c : Half) : (s.setCrc c).baudSel = s.baudSel := rfl
@[simp] theorem State.setCrc_ie (c : Half) : (s.setCrc c).ie = s.ie := rfl
@[simp] theorem State.setCrc_err (c : Half) : (s.setCrc c).err = s.err := rfl
@[simp] theorem State.setCrc_txDone (c : Half) : (s.setCrc c).txDone = s.txDone := rfl
@[simp] theorem State.setCrc_crcAcc (c : Half) : (s.setCrc c).crcAcc = c := rfl
@[simp] theorem State.setCrc_txCmd (c : Half) : (s.setCrc c).txCmd = s.txCmd := rfl
@[simp] theorem State.setCrc_txq (c : Half) : (s.setCrc c).txq = s.txq := rfl
@[simp] theorem State.setCrc_txState (c : Half) : (s.setCrc c).txState = s.txState := rfl
@[simp] theorem State.setCrc_txFrame (c : Half) : (s.setCrc c).txFrame = s.txFrame := rfl
@[simp] theorem State.setCrc_txPos (c : Half) : (s.setCrc c).txPos = s.txPos := rfl
@[simp] theorem State.setCrc_txLastCrc (c : Half) : (s.setCrc c).txLastCrc = s.txLastCrc := rfl
@[simp] theorem State.setCrc_txLastLen (c : Half) : (s.setCrc c).txLastLen = s.txLastLen := rfl
@[simp] theorem State.setCrc_txLastTotal (c : Half) : (s.setCrc c).txLastTotal = s.txLastTotal := rfl
@[simp] theorem State.setCrc_rxState (c : Half) : (s.setCrc c).rxState = s.rxState := rfl
@[simp] theorem State.setCrc_rxbuf (c : Half) : (s.setCrc c).rxbuf = s.rxbuf := rfl
@[simp] theorem State.setCrc_rxGap (c : Half) : (s.setCrc c).rxGap = s.rxGap := rfl
@[simp] theorem State.setCrc_faulted (c : Half) : (s.setCrc c).faulted = s.faulted := rfl
@[simp] theorem State.setCrc_resetIn (c : Half) : (s.setCrc c).resetIn = s.resetIn := rfl
@[simp] theorem State.setCrc_busResp (c : Half) : (s.setCrc c).busResp = s.busResp := rfl
@[simp] theorem State.setCrc_line (c : Half) : (s.setCrc c).line = s.line := rfl
@[simp] theorem State.setCrc_pending (c : Half) : (s.setCrc c).pending = s.pending := rfl

@[simp] theorem State.setCmd_rxEn (b : Byte) : (s.setCmd b).rxEn = s.rxEn := rfl
@[simp] theorem State.setCmd_baudSel (b : Byte) : (s.setCmd b).baudSel = s.baudSel := rfl
@[simp] theorem State.setCmd_ie (b : Byte) : (s.setCmd b).ie = s.ie := rfl
@[simp] theorem State.setCmd_err (b : Byte) : (s.setCmd b).err = s.err := rfl
@[simp] theorem State.setCmd_txDone (b : Byte) : (s.setCmd b).txDone = s.txDone := rfl
@[simp] theorem State.setCmd_crcAcc (b : Byte) : (s.setCmd b).crcAcc = s.crcAcc := rfl
@[simp] theorem State.setCmd_txCmd (b : Byte) : (s.setCmd b).txCmd = b := rfl
@[simp] theorem State.setCmd_txq (b : Byte) : (s.setCmd b).txq = s.txq := rfl
@[simp] theorem State.setCmd_txState (b : Byte) : (s.setCmd b).txState = s.txState := rfl
@[simp] theorem State.setCmd_txFrame (b : Byte) : (s.setCmd b).txFrame = s.txFrame := rfl
@[simp] theorem State.setCmd_txPos (b : Byte) : (s.setCmd b).txPos = s.txPos := rfl
@[simp] theorem State.setCmd_txLastCrc (b : Byte) : (s.setCmd b).txLastCrc = s.txLastCrc := rfl
@[simp] theorem State.setCmd_txLastLen (b : Byte) : (s.setCmd b).txLastLen = s.txLastLen := rfl
@[simp] theorem State.setCmd_txLastTotal (b : Byte) : (s.setCmd b).txLastTotal = s.txLastTotal := rfl
@[simp] theorem State.setCmd_rxState (b : Byte) : (s.setCmd b).rxState = s.rxState := rfl
@[simp] theorem State.setCmd_rxbuf (b : Byte) : (s.setCmd b).rxbuf = s.rxbuf := rfl
@[simp] theorem State.setCmd_rxGap (b : Byte) : (s.setCmd b).rxGap = s.rxGap := rfl
@[simp] theorem State.setCmd_faulted (b : Byte) : (s.setCmd b).faulted = s.faulted := rfl
@[simp] theorem State.setCmd_resetIn (b : Byte) : (s.setCmd b).resetIn = s.resetIn := rfl
@[simp] theorem State.setCmd_busResp (b : Byte) : (s.setCmd b).busResp = s.busResp := rfl
@[simp] theorem State.setCmd_line (b : Byte) : (s.setCmd b).line = s.line := rfl
@[simp] theorem State.setCmd_pending (b : Byte) : (s.setCmd b).pending = s.pending := rfl

@[simp] theorem State.enqueue_rxEn (b : Byte) : (s.enqueue b).rxEn = s.rxEn := rfl
@[simp] theorem State.enqueue_baudSel (b : Byte) : (s.enqueue b).baudSel = s.baudSel := rfl
@[simp] theorem State.enqueue_ie (b : Byte) : (s.enqueue b).ie = s.ie := rfl
@[simp] theorem State.enqueue_err (b : Byte) : (s.enqueue b).err = s.err := rfl
@[simp] theorem State.enqueue_txDone (b : Byte) : (s.enqueue b).txDone = s.txDone := rfl
@[simp] theorem State.enqueue_crcAcc (b : Byte) : (s.enqueue b).crcAcc = s.crcAcc := rfl
@[simp] theorem State.enqueue_txCmd (b : Byte) : (s.enqueue b).txCmd = s.txCmd := rfl
@[simp] theorem State.enqueue_txq (b : Byte) : (s.enqueue b).txq = s.txq ++ [b] := rfl
@[simp] theorem State.enqueue_txState (b : Byte) : (s.enqueue b).txState = s.txState := rfl
@[simp] theorem State.enqueue_txFrame (b : Byte) : (s.enqueue b).txFrame = s.txFrame := rfl
@[simp] theorem State.enqueue_txPos (b : Byte) : (s.enqueue b).txPos = s.txPos := rfl
@[simp] theorem State.enqueue_txLastCrc (b : Byte) : (s.enqueue b).txLastCrc = s.txLastCrc := rfl
@[simp] theorem State.enqueue_txLastLen (b : Byte) : (s.enqueue b).txLastLen = s.txLastLen := rfl
@[simp] theorem State.enqueue_txLastTotal (b : Byte) : (s.enqueue b).txLastTotal = s.txLastTotal := rfl
@[simp] theorem State.enqueue_rxState (b : Byte) : (s.enqueue b).rxState = s.rxState := rfl
@[simp] theorem State.enqueue_rxbuf (b : Byte) : (s.enqueue b).rxbuf = s.rxbuf := rfl
@[simp] theorem State.enqueue_rxGap (b : Byte) : (s.enqueue b).rxGap = s.rxGap := rfl
@[simp] theorem State.enqueue_faulted (b : Byte) : (s.enqueue b).faulted = s.faulted := rfl
@[simp] theorem State.enqueue_resetIn (b : Byte) : (s.enqueue b).resetIn = s.resetIn := rfl
@[simp] theorem State.enqueue_busResp (b : Byte) : (s.enqueue b).busResp = s.busResp := rfl
@[simp] theorem State.enqueue_line (b : Byte) : (s.enqueue b).line = s.line := rfl
@[simp] theorem State.enqueue_pending (b : Byte) : (s.enqueue b).pending = s.pending := rfl

@[simp] theorem State.emptyQueue_rxEn : (s.emptyQueue).rxEn = s.rxEn := rfl
@[simp] theorem State.emptyQueue_baudSel : (s.emptyQueue).baudSel = s.baudSel := rfl
@[simp] theorem State.emptyQueue_ie : (s.emptyQueue).ie = s.ie := rfl
@[simp] theorem State.emptyQueue_err : (s.emptyQueue).err = s.err := rfl
@[simp] theorem State.emptyQueue_txDone : (s.emptyQueue).txDone = s.txDone := rfl
@[simp] theorem State.emptyQueue_crcAcc : (s.emptyQueue).crcAcc = s.crcAcc := rfl
@[simp] theorem State.emptyQueue_txCmd : (s.emptyQueue).txCmd = s.txCmd := rfl
@[simp] theorem State.emptyQueue_txq : (s.emptyQueue).txq = [] := rfl
@[simp] theorem State.emptyQueue_txState : (s.emptyQueue).txState = s.txState := rfl
@[simp] theorem State.emptyQueue_txFrame : (s.emptyQueue).txFrame = s.txFrame := rfl
@[simp] theorem State.emptyQueue_txPos : (s.emptyQueue).txPos = s.txPos := rfl
@[simp] theorem State.emptyQueue_txLastCrc : (s.emptyQueue).txLastCrc = s.txLastCrc := rfl
@[simp] theorem State.emptyQueue_txLastLen : (s.emptyQueue).txLastLen = s.txLastLen := rfl
@[simp] theorem State.emptyQueue_txLastTotal : (s.emptyQueue).txLastTotal = s.txLastTotal := rfl
@[simp] theorem State.emptyQueue_rxState : (s.emptyQueue).rxState = s.rxState := rfl
@[simp] theorem State.emptyQueue_rxbuf : (s.emptyQueue).rxbuf = s.rxbuf := rfl
@[simp] theorem State.emptyQueue_rxGap : (s.emptyQueue).rxGap = s.rxGap := rfl
@[simp] theorem State.emptyQueue_faulted : (s.emptyQueue).faulted = s.faulted := rfl
@[simp] theorem State.emptyQueue_resetIn : (s.emptyQueue).resetIn = s.resetIn := rfl
@[simp] theorem State.emptyQueue_busResp : (s.emptyQueue).busResp = s.busResp := rfl
@[simp] theorem State.emptyQueue_line : (s.emptyQueue).line = s.line := rfl
@[simp] theorem State.emptyQueue_pending : (s.emptyQueue).pending = s.pending := rfl

@[simp] theorem State.latch_rxEn (f : List Byte) : (s.latch f).rxEn = s.rxEn := rfl
@[simp] theorem State.latch_baudSel (f : List Byte) : (s.latch f).baudSel = s.baudSel := rfl
@[simp] theorem State.latch_ie (f : List Byte) : (s.latch f).ie = s.ie := rfl
@[simp] theorem State.latch_err (f : List Byte) : (s.latch f).err = s.err := rfl
@[simp] theorem State.latch_txDone (f : List Byte) : (s.latch f).txDone = false := rfl
@[simp] theorem State.latch_crcAcc (f : List Byte) : (s.latch f).crcAcc = s.crcAcc := rfl
@[simp] theorem State.latch_txCmd (f : List Byte) : (s.latch f).txCmd = s.txCmd := rfl
@[simp] theorem State.latch_txq (f : List Byte) : (s.latch f).txq = s.txq := rfl
@[simp] theorem State.latch_txState (f : List Byte) : (s.latch f).txState = .sending := rfl
@[simp] theorem State.latch_txFrame (f : List Byte) : (s.latch f).txFrame = f := rfl
@[simp] theorem State.latch_txPos (f : List Byte) : (s.latch f).txPos = 0 := rfl
@[simp] theorem State.latch_txLastCrc (f : List Byte) : (s.latch f).txLastCrc = crc16 (frameBody f) := rfl
@[simp] theorem State.latch_txLastLen (f : List Byte) : (s.latch f).txLastLen = f.getD 2 0x00#8 := rfl
@[simp] theorem State.latch_txLastTotal (f : List Byte) : (s.latch f).txLastTotal = BitVec.ofNat 16 f.length := rfl
@[simp] theorem State.latch_rxState (f : List Byte) : (s.latch f).rxState = s.rxState := rfl
@[simp] theorem State.latch_rxbuf (f : List Byte) : (s.latch f).rxbuf = s.rxbuf := rfl
@[simp] theorem State.latch_rxGap (f : List Byte) : (s.latch f).rxGap = s.rxGap := rfl
@[simp] theorem State.latch_faulted (f : List Byte) : (s.latch f).faulted = s.faulted := rfl
@[simp] theorem State.latch_resetIn (f : List Byte) : (s.latch f).resetIn = s.resetIn := rfl
@[simp] theorem State.latch_busResp (f : List Byte) : (s.latch f).busResp = s.busResp := rfl
@[simp] theorem State.latch_line (f : List Byte) : (s.latch f).line = s.line := rfl
@[simp] theorem State.latch_pending (f : List Byte) : (s.latch f).pending = s.pending := rfl

@[simp] theorem State.emit_rxEn (b : Byte) : (s.emit b).rxEn = s.rxEn := rfl
@[simp] theorem State.emit_baudSel (b : Byte) : (s.emit b).baudSel = s.baudSel := rfl
@[simp] theorem State.emit_ie (b : Byte) : (s.emit b).ie = s.ie := rfl
@[simp] theorem State.emit_err (b : Byte) : (s.emit b).err = s.err := rfl
@[simp] theorem State.emit_txDone (b : Byte) : (s.emit b).txDone = s.txDone := rfl
@[simp] theorem State.emit_crcAcc (b : Byte) : (s.emit b).crcAcc = s.crcAcc := rfl
@[simp] theorem State.emit_txCmd (b : Byte) : (s.emit b).txCmd = s.txCmd := rfl
@[simp] theorem State.emit_txq (b : Byte) : (s.emit b).txq = s.txq := rfl
@[simp] theorem State.emit_txState (b : Byte) : (s.emit b).txState = s.txState := rfl
@[simp] theorem State.emit_txFrame (b : Byte) : (s.emit b).txFrame = s.txFrame := rfl
@[simp] theorem State.emit_txPos (b : Byte) : (s.emit b).txPos = s.txPos + 1 := rfl
@[simp] theorem State.emit_txLastCrc (b : Byte) : (s.emit b).txLastCrc = s.txLastCrc := rfl
@[simp] theorem State.emit_txLastLen (b : Byte) : (s.emit b).txLastLen = s.txLastLen := rfl
@[simp] theorem State.emit_txLastTotal (b : Byte) : (s.emit b).txLastTotal = s.txLastTotal := rfl
@[simp] theorem State.emit_rxState (b : Byte) : (s.emit b).rxState = s.rxState := rfl
@[simp] theorem State.emit_rxbuf (b : Byte) : (s.emit b).rxbuf = s.rxbuf := rfl
@[simp] theorem State.emit_rxGap (b : Byte) : (s.emit b).rxGap = s.rxGap := rfl
@[simp] theorem State.emit_faulted (b : Byte) : (s.emit b).faulted = s.faulted := rfl
@[simp] theorem State.emit_resetIn (b : Byte) : (s.emit b).resetIn = s.resetIn := rfl
@[simp] theorem State.emit_busResp (b : Byte) : (s.emit b).busResp = s.busResp := rfl
@[simp] theorem State.emit_line (b : Byte) : (s.emit b).line = s.line ++ [b] := rfl
@[simp] theorem State.emit_pending (b : Byte) : (s.emit b).pending = s.pending := rfl

@[simp] theorem State.finishFrame_rxEn : (s.finishFrame).rxEn = s.rxEn := rfl
@[simp] theorem State.finishFrame_baudSel : (s.finishFrame).baudSel = s.baudSel := rfl
@[simp] theorem State.finishFrame_ie : (s.finishFrame).ie = s.ie := rfl
@[simp] theorem State.finishFrame_err : (s.finishFrame).err = s.err := rfl
@[simp] theorem State.finishFrame_txDone : (s.finishFrame).txDone = true := rfl
@[simp] theorem State.finishFrame_crcAcc : (s.finishFrame).crcAcc = s.crcAcc := rfl
@[simp] theorem State.finishFrame_txCmd : (s.finishFrame).txCmd = s.txCmd := rfl
@[simp] theorem State.finishFrame_txq : (s.finishFrame).txq = s.txq := rfl
@[simp] theorem State.finishFrame_txState : (s.finishFrame).txState = .idle := rfl
@[simp] theorem State.finishFrame_txFrame : (s.finishFrame).txFrame = [] := rfl
@[simp] theorem State.finishFrame_txPos : (s.finishFrame).txPos = 0 := rfl
@[simp] theorem State.finishFrame_txLastCrc : (s.finishFrame).txLastCrc = s.txLastCrc := rfl
@[simp] theorem State.finishFrame_txLastLen : (s.finishFrame).txLastLen = s.txLastLen := rfl
@[simp] theorem State.finishFrame_txLastTotal : (s.finishFrame).txLastTotal = s.txLastTotal := rfl
@[simp] theorem State.finishFrame_rxState : (s.finishFrame).rxState = s.rxState := rfl
@[simp] theorem State.finishFrame_rxbuf : (s.finishFrame).rxbuf = s.rxbuf := rfl
@[simp] theorem State.finishFrame_rxGap : (s.finishFrame).rxGap = s.rxGap := rfl
@[simp] theorem State.finishFrame_faulted : (s.finishFrame).faulted = s.faulted := rfl
@[simp] theorem State.finishFrame_resetIn : (s.finishFrame).resetIn = s.resetIn := rfl
@[simp] theorem State.finishFrame_busResp : (s.finishFrame).busResp = s.busResp := rfl
@[simp] theorem State.finishFrame_line : (s.finishFrame).line = s.line := rfl
@[simp] theorem State.finishFrame_pending : (s.finishFrame).pending = s.pending := rfl

@[simp] theorem State.collect_rxEn (b : Byte) : (s.collect b).rxEn = s.rxEn := rfl
@[simp] theorem State.collect_baudSel (b : Byte) : (s.collect b).baudSel = s.baudSel := rfl
@[simp] theorem State.collect_ie (b : Byte) : (s.collect b).ie = s.ie := rfl
@[simp] theorem State.collect_err (b : Byte) : (s.collect b).err = s.err := rfl
@[simp] theorem State.collect_txDone (b : Byte) : (s.collect b).txDone = s.txDone := rfl
@[simp] theorem State.collect_crcAcc (b : Byte) : (s.collect b).crcAcc = s.crcAcc := rfl
@[simp] theorem State.collect_txCmd (b : Byte) : (s.collect b).txCmd = s.txCmd := rfl
@[simp] theorem State.collect_txq (b : Byte) : (s.collect b).txq = s.txq := rfl
@[simp] theorem State.collect_txState (b : Byte) : (s.collect b).txState = s.txState := rfl
@[simp] theorem State.collect_txFrame (b : Byte) : (s.collect b).txFrame = s.txFrame := rfl
@[simp] theorem State.collect_txPos (b : Byte) : (s.collect b).txPos = s.txPos := rfl
@[simp] theorem State.collect_txLastCrc (b : Byte) : (s.collect b).txLastCrc = s.txLastCrc := rfl
@[simp] theorem State.collect_txLastLen (b : Byte) : (s.collect b).txLastLen = s.txLastLen := rfl
@[simp] theorem State.collect_txLastTotal (b : Byte) : (s.collect b).txLastTotal = s.txLastTotal := rfl
@[simp] theorem State.collect_rxState (b : Byte) : (s.collect b).rxState = .collecting := rfl
@[simp] theorem State.collect_rxbuf (b : Byte) : (s.collect b).rxbuf = s.rxbuf ++ [b] := rfl
@[simp] theorem State.collect_rxGap (b : Byte) : (s.collect b).rxGap = s.rxGap := rfl
@[simp] theorem State.collect_faulted (b : Byte) : (s.collect b).faulted = s.faulted := rfl
@[simp] theorem State.collect_resetIn (b : Byte) : (s.collect b).resetIn = s.resetIn := rfl
@[simp] theorem State.collect_busResp (b : Byte) : (s.collect b).busResp = s.busResp := rfl
@[simp] theorem State.collect_line (b : Byte) : (s.collect b).line = s.line := rfl
@[simp] theorem State.collect_pending (b : Byte) : (s.collect b).pending = s.pending := rfl

@[simp] theorem State.closeFrame_rxEn : (s.closeFrame).rxEn = s.rxEn := rfl
@[simp] theorem State.closeFrame_baudSel : (s.closeFrame).baudSel = s.baudSel := rfl
@[simp] theorem State.closeFrame_ie : (s.closeFrame).ie = s.ie := rfl
@[simp] theorem State.closeFrame_err : (s.closeFrame).err = s.err := rfl
@[simp] theorem State.closeFrame_txDone : (s.closeFrame).txDone = s.txDone := rfl
@[simp] theorem State.closeFrame_crcAcc : (s.closeFrame).crcAcc = s.crcAcc := rfl
@[simp] theorem State.closeFrame_txCmd : (s.closeFrame).txCmd = s.txCmd := rfl
@[simp] theorem State.closeFrame_txq : (s.closeFrame).txq = s.txq := rfl
@[simp] theorem State.closeFrame_txState : (s.closeFrame).txState = s.txState := rfl
@[simp] theorem State.closeFrame_txFrame : (s.closeFrame).txFrame = s.txFrame := rfl
@[simp] theorem State.closeFrame_txPos : (s.closeFrame).txPos = s.txPos := rfl
@[simp] theorem State.closeFrame_txLastCrc : (s.closeFrame).txLastCrc = s.txLastCrc := rfl
@[simp] theorem State.closeFrame_txLastLen : (s.closeFrame).txLastLen = s.txLastLen := rfl
@[simp] theorem State.closeFrame_txLastTotal : (s.closeFrame).txLastTotal = s.txLastTotal := rfl
@[simp] theorem State.closeFrame_rxState : (s.closeFrame).rxState = .ready := rfl
@[simp] theorem State.closeFrame_rxbuf : (s.closeFrame).rxbuf = s.rxbuf := rfl
@[simp] theorem State.closeFrame_rxGap : (s.closeFrame).rxGap = s.rxGap := rfl
@[simp] theorem State.closeFrame_faulted : (s.closeFrame).faulted = s.faulted := rfl
@[simp] theorem State.closeFrame_resetIn : (s.closeFrame).resetIn = s.resetIn := rfl
@[simp] theorem State.closeFrame_busResp : (s.closeFrame).busResp = s.busResp := rfl
@[simp] theorem State.closeFrame_line : (s.closeFrame).line = s.line := rfl
@[simp] theorem State.closeFrame_pending : (s.closeFrame).pending = s.pending := rfl

@[simp] theorem State.release_rxEn : (s.release).rxEn = s.rxEn := rfl
@[simp] theorem State.release_baudSel : (s.release).baudSel = s.baudSel := rfl
@[simp] theorem State.release_ie : (s.release).ie = s.ie := rfl
@[simp] theorem State.release_err : (s.release).err = s.err := rfl
@[simp] theorem State.release_txDone : (s.release).txDone = s.txDone := rfl
@[simp] theorem State.release_crcAcc : (s.release).crcAcc = s.crcAcc := rfl
@[simp] theorem State.release_txCmd : (s.release).txCmd = s.txCmd := rfl
@[simp] theorem State.release_txq : (s.release).txq = s.txq := rfl
@[simp] theorem State.release_txState : (s.release).txState = s.txState := rfl
@[simp] theorem State.release_txFrame : (s.release).txFrame = s.txFrame := rfl
@[simp] theorem State.release_txPos : (s.release).txPos = s.txPos := rfl
@[simp] theorem State.release_txLastCrc : (s.release).txLastCrc = s.txLastCrc := rfl
@[simp] theorem State.release_txLastLen : (s.release).txLastLen = s.txLastLen := rfl
@[simp] theorem State.release_txLastTotal : (s.release).txLastTotal = s.txLastTotal := rfl
@[simp] theorem State.release_rxState : (s.release).rxState = .idle := rfl
@[simp] theorem State.release_rxbuf : (s.release).rxbuf = [] := rfl
@[simp] theorem State.release_rxGap : (s.release).rxGap = s.rxGap := rfl
@[simp] theorem State.release_faulted : (s.release).faulted = s.faulted := rfl
@[simp] theorem State.release_resetIn : (s.release).resetIn = s.resetIn := rfl
@[simp] theorem State.release_busResp : (s.release).busResp = s.busResp := rfl
@[simp] theorem State.release_line : (s.release).line = s.line := rfl
@[simp] theorem State.release_pending : (s.release).pending = s.pending := rfl

@[simp] theorem State.setGap_rxEn (g : Byte) : (s.setGap g).rxEn = s.rxEn := rfl
@[simp] theorem State.setGap_baudSel (g : Byte) : (s.setGap g).baudSel = s.baudSel := rfl
@[simp] theorem State.setGap_ie (g : Byte) : (s.setGap g).ie = s.ie := rfl
@[simp] theorem State.setGap_err (g : Byte) : (s.setGap g).err = s.err := rfl
@[simp] theorem State.setGap_txDone (g : Byte) : (s.setGap g).txDone = s.txDone := rfl
@[simp] theorem State.setGap_crcAcc (g : Byte) : (s.setGap g).crcAcc = s.crcAcc := rfl
@[simp] theorem State.setGap_txCmd (g : Byte) : (s.setGap g).txCmd = s.txCmd := rfl
@[simp] theorem State.setGap_txq (g : Byte) : (s.setGap g).txq = s.txq := rfl
@[simp] theorem State.setGap_txState (g : Byte) : (s.setGap g).txState = s.txState := rfl
@[simp] theorem State.setGap_txFrame (g : Byte) : (s.setGap g).txFrame = s.txFrame := rfl
@[simp] theorem State.setGap_txPos (g : Byte) : (s.setGap g).txPos = s.txPos := rfl
@[simp] theorem State.setGap_txLastCrc (g : Byte) : (s.setGap g).txLastCrc = s.txLastCrc := rfl
@[simp] theorem State.setGap_txLastLen (g : Byte) : (s.setGap g).txLastLen = s.txLastLen := rfl
@[simp] theorem State.setGap_txLastTotal (g : Byte) : (s.setGap g).txLastTotal = s.txLastTotal := rfl
@[simp] theorem State.setGap_rxState (g : Byte) : (s.setGap g).rxState = s.rxState := rfl
@[simp] theorem State.setGap_rxbuf (g : Byte) : (s.setGap g).rxbuf = s.rxbuf := rfl
@[simp] theorem State.setGap_rxGap (g : Byte) : (s.setGap g).rxGap = g := rfl
@[simp] theorem State.setGap_faulted (g : Byte) : (s.setGap g).faulted = s.faulted := rfl
@[simp] theorem State.setGap_resetIn (g : Byte) : (s.setGap g).resetIn = s.resetIn := rfl
@[simp] theorem State.setGap_busResp (g : Byte) : (s.setGap g).busResp = s.busResp := rfl
@[simp] theorem State.setGap_line (g : Byte) : (s.setGap g).line = s.line := rfl
@[simp] theorem State.setGap_pending (g : Byte) : (s.setGap g).pending = s.pending := rfl

@[simp] theorem State.setResetIn_rxEn (level : Bool) : (s.setResetIn level).rxEn = s.rxEn := rfl
@[simp] theorem State.setResetIn_baudSel (level : Bool) : (s.setResetIn level).baudSel = s.baudSel := rfl
@[simp] theorem State.setResetIn_ie (level : Bool) : (s.setResetIn level).ie = s.ie := rfl
@[simp] theorem State.setResetIn_err (level : Bool) : (s.setResetIn level).err = s.err := rfl
@[simp] theorem State.setResetIn_txDone (level : Bool) : (s.setResetIn level).txDone = s.txDone := rfl
@[simp] theorem State.setResetIn_crcAcc (level : Bool) : (s.setResetIn level).crcAcc = s.crcAcc := rfl
@[simp] theorem State.setResetIn_txCmd (level : Bool) : (s.setResetIn level).txCmd = s.txCmd := rfl
@[simp] theorem State.setResetIn_txq (level : Bool) : (s.setResetIn level).txq = s.txq := rfl
@[simp] theorem State.setResetIn_txState (level : Bool) : (s.setResetIn level).txState = s.txState := rfl
@[simp] theorem State.setResetIn_txFrame (level : Bool) : (s.setResetIn level).txFrame = s.txFrame := rfl
@[simp] theorem State.setResetIn_txPos (level : Bool) : (s.setResetIn level).txPos = s.txPos := rfl
@[simp] theorem State.setResetIn_txLastCrc (level : Bool) : (s.setResetIn level).txLastCrc = s.txLastCrc := rfl
@[simp] theorem State.setResetIn_txLastLen (level : Bool) : (s.setResetIn level).txLastLen = s.txLastLen := rfl
@[simp] theorem State.setResetIn_txLastTotal (level : Bool) : (s.setResetIn level).txLastTotal = s.txLastTotal := rfl
@[simp] theorem State.setResetIn_rxState (level : Bool) : (s.setResetIn level).rxState = s.rxState := rfl
@[simp] theorem State.setResetIn_rxbuf (level : Bool) : (s.setResetIn level).rxbuf = s.rxbuf := rfl
@[simp] theorem State.setResetIn_rxGap (level : Bool) : (s.setResetIn level).rxGap = s.rxGap := rfl
@[simp] theorem State.setResetIn_faulted (level : Bool) : (s.setResetIn level).faulted = s.faulted := rfl
@[simp] theorem State.setResetIn_resetIn (level : Bool) : (s.setResetIn level).resetIn = level := rfl
@[simp] theorem State.setResetIn_busResp (level : Bool) : (s.setResetIn level).busResp = s.busResp := rfl
@[simp] theorem State.setResetIn_line (level : Bool) : (s.setResetIn level).line = s.line := rfl
@[simp] theorem State.setResetIn_pending (level : Bool) : (s.setResetIn level).pending = s.pending := rfl

@[simp] theorem State.resetFields_rxEn : (s.resetFields).rxEn = State.reset.rxEn := rfl
@[simp] theorem State.resetFields_baudSel : (s.resetFields).baudSel = State.reset.baudSel := rfl
@[simp] theorem State.resetFields_ie : (s.resetFields).ie = State.reset.ie := rfl
@[simp] theorem State.resetFields_err : (s.resetFields).err = State.reset.err := rfl
@[simp] theorem State.resetFields_txDone : (s.resetFields).txDone = State.reset.txDone := rfl
@[simp] theorem State.resetFields_crcAcc : (s.resetFields).crcAcc = State.reset.crcAcc := rfl
@[simp] theorem State.resetFields_txCmd : (s.resetFields).txCmd = State.reset.txCmd := rfl
@[simp] theorem State.resetFields_txq : (s.resetFields).txq = State.reset.txq := rfl
@[simp] theorem State.resetFields_txState : (s.resetFields).txState = State.reset.txState := rfl
@[simp] theorem State.resetFields_txFrame : (s.resetFields).txFrame = State.reset.txFrame := rfl
@[simp] theorem State.resetFields_txPos : (s.resetFields).txPos = State.reset.txPos := rfl
@[simp] theorem State.resetFields_txLastCrc : (s.resetFields).txLastCrc = State.reset.txLastCrc := rfl
@[simp] theorem State.resetFields_txLastLen : (s.resetFields).txLastLen = State.reset.txLastLen := rfl
@[simp] theorem State.resetFields_txLastTotal : (s.resetFields).txLastTotal = State.reset.txLastTotal := rfl
@[simp] theorem State.resetFields_rxState : (s.resetFields).rxState = State.reset.rxState := rfl
@[simp] theorem State.resetFields_rxbuf : (s.resetFields).rxbuf = State.reset.rxbuf := rfl
@[simp] theorem State.resetFields_rxGap : (s.resetFields).rxGap = State.reset.rxGap := rfl
@[simp] theorem State.resetFields_faulted : (s.resetFields).faulted = s.faulted := rfl
@[simp] theorem State.resetFields_resetIn : (s.resetFields).resetIn = s.resetIn := rfl
@[simp] theorem State.resetFields_busResp : (s.resetFields).busResp = s.busResp := rfl
@[simp] theorem State.resetFields_line : (s.resetFields).line = s.line := rfl
@[simp] theorem State.resetFields_pending : (s.resetFields).pending = s.pending := rfl

@[simp] theorem State.place_rxEn (r : Raw) : (s.place r).rxEn = s.rxEn := rfl
@[simp] theorem State.place_baudSel (r : Raw) : (s.place r).baudSel = s.baudSel := rfl
@[simp] theorem State.place_ie (r : Raw) : (s.place r).ie = s.ie := rfl
@[simp] theorem State.place_err (r : Raw) : (s.place r).err = s.err := rfl
@[simp] theorem State.place_txDone (r : Raw) : (s.place r).txDone = s.txDone := rfl
@[simp] theorem State.place_crcAcc (r : Raw) : (s.place r).crcAcc = s.crcAcc := rfl
@[simp] theorem State.place_txCmd (r : Raw) : (s.place r).txCmd = s.txCmd := rfl
@[simp] theorem State.place_txq (r : Raw) : (s.place r).txq = s.txq := rfl
@[simp] theorem State.place_txState (r : Raw) : (s.place r).txState = s.txState := rfl
@[simp] theorem State.place_txFrame (r : Raw) : (s.place r).txFrame = s.txFrame := rfl
@[simp] theorem State.place_txPos (r : Raw) : (s.place r).txPos = s.txPos := rfl
@[simp] theorem State.place_txLastCrc (r : Raw) : (s.place r).txLastCrc = s.txLastCrc := rfl
@[simp] theorem State.place_txLastLen (r : Raw) : (s.place r).txLastLen = s.txLastLen := rfl
@[simp] theorem State.place_txLastTotal (r : Raw) : (s.place r).txLastTotal = s.txLastTotal := rfl
@[simp] theorem State.place_rxState (r : Raw) : (s.place r).rxState = s.rxState := rfl
@[simp] theorem State.place_rxbuf (r : Raw) : (s.place r).rxbuf = s.rxbuf := rfl
@[simp] theorem State.place_rxGap (r : Raw) : (s.place r).rxGap = s.rxGap := rfl
@[simp] theorem State.place_faulted (r : Raw) : (s.place r).faulted = s.faulted := rfl
@[simp] theorem State.place_resetIn (r : Raw) : (s.place r).resetIn = false := rfl
@[simp] theorem State.place_busResp (r : Raw) : (s.place r).busResp = s.busResp := rfl
@[simp] theorem State.place_line (r : Raw) : (s.place r).line = s.line := rfl
@[simp] theorem State.place_pending (r : Raw) : (s.place r).pending = .raw r :: s.pending := rfl

end Sys2Proof.Machine
end

