-- ==== Sys2Proof/Laws/Ops.lean ====
section
/-! SUPPORT. What each shared operation can do, once: a later proof cites these and unfolds no operation. -/

namespace Sys2Proof.Machine

open Sys2Proof.Config

variable (s : State)

theorem State.readDone_eq (v : Word) : s.readDone v = .next { s with busResp := .data v } := rfl

theorem State.writeDone_eq : s.writeDone = .next { s with busResp := .done } := rfl

theorem State.raiseBusError_eq (off : Offset) : s.raiseBusError off = .next { s with busResp := .error off } := rfl

@[simp] theorem State.txBusy_eq_true : s.txBusy = true ↔ s.txState = .sending := by simp [State.txBusy]

@[simp] theorem State.txBusy_eq_false : s.txBusy = false ↔ s.txState = .idle := by
  cases h : s.txState <;> simp [State.txBusy, h]

@[simp] theorem State.rxReady_eq_true : s.rxReady = true ↔ s.rxState = .ready := by simp [State.rxReady]

@[simp] theorem State.rxActive_eq_true : s.rxActive = true ↔ s.rxState = .collecting := by simp [State.rxActive]

/-- A push appends, or sets TX_OVF on a full queue. -/
theorem State.push_cases (b : Byte) :
    (s.txq.length < txqDepth ∧ s.push b = s.enqueue b) ∨ (txqDepth ≤ s.txq.length ∧ s.push b = s.setErr errTxOvf) := by
  unfold State.push
  split
  · exact .inl ⟨‹_›, rfl⟩
  · exact .inr ⟨Nat.le_of_not_lt ‹_›, rfl⟩

/-- The busy rule starts the frame from idle and sets TX_BUSYERR while sending. -/
theorem State.unlessBusy_cases (u : State) :
    (s.txState = .idle ∧ s.unlessBusy u = u) ∨ (s.txState = .sending ∧ s.unlessBusy u = s.setErr errTxBusy) := by
  cases h : s.txState
  · exact .inl ⟨rfl, by simp [State.unlessBusy, State.txBusy, h]⟩
  · exact .inr ⟨rfl, by simp [State.unlessBusy, State.txBusy, h]⟩

/-- If an engine step answers a next state: an idle engine stayed, or a character left and the frame went on, or it was
the last. -/
theorem State.sendChar_cases {t : State} (h : s.sendChar = .next t) :
    (s.txState = .idle ∧ t = s) ∨
    (∃ b, s.txState = .sending ∧ s.txFrame[s.txPos]? = some b ∧
      ((s.txPos + 1 = s.txFrame.length ∧ t = (s.emit b).finishFrame) ∨
       (s.txPos + 1 ≠ s.txFrame.length ∧ t = s.emit b))) := by
  unfold State.sendChar at h
  split at h
  · rename_i hb
    split at h
    · rename_i b hf
      cases h
      refine .inr ⟨b, s.txBusy_eq_true.mp hb, hf, ?_⟩
      unfold State.afterChar
      split
      · exact .inl ⟨by simpa using ‹_›, rfl⟩
      · exact .inr ⟨by simpa using ‹_›, rfl⟩
    · cases h
  · rename_i hb
    cases h
    exact .inl ⟨s.txBusy_eq_false.mp (Bool.not_eq_true _ ▸ hb), rfl⟩

/-- An engine step faults only at a position outside the frame. -/
theorem State.sendChar_fault {f : Fault} (h : s.sendChar = .fault f) :
    s.txState = .sending ∧ s.txFrame.length ≤ s.txPos := by
  unfold State.sendChar at h
  split at h
  · rename_i hb
    split at h
    · cases h
    · rename_i hf
      exact ⟨s.txBusy_eq_true.mp hb, by simpa using hf⟩
  · cases h

/-- An engine step is never refused. -/
theorem State.sendChar_not_refused (r : Refusal) : s.sendChar ≠ .refused r := by
  unfold State.sendChar
  split
  · split <;> simp
  · simp

/-- A character is stored, or dropped with RX_OVF. -/
theorem State.store_cases (b : Byte) :
    ((s.rxState = .ready ∨ s.rxbuf.length = rxbufSize) ∧ s.store b = s.setErr errRxOvf) ∨
    (s.rxState ≠ .ready ∧ s.rxbuf.length ≠ rxbufSize ∧ s.store b = s.collect b) := by
  unfold State.store
  split
  · exact .inl ⟨.inl (s.rxReady_eq_true.mp ‹_›), rfl⟩
  · rename_i hr
    split
    · exact .inl ⟨.inr ‹_›, rfl⟩
    · exact .inr ⟨fun h => hr (s.rxReady_eq_true.mpr h), ‹_›, rfl⟩

/-- A received character is ignored, stored or dropped, with RX_FERR besides on a bad stop bit. -/
theorem State.lineIn_cases (b : Byte) (ok : Bool) :
    (s.rxEn = false ∧ s.lineIn b ok = s) ∨
    (s.rxEn = true ∧ ok = true ∧ s.lineIn b ok = s.store b) ∨
    (s.rxEn = true ∧ ok = false ∧ s.lineIn b ok = (s.store b).setErr errRxFerr) := by
  unfold State.lineIn
  cases h : s.rxEn <;> cases ok <;> simp

/-- A gap closes a frame being collected and does nothing else. -/
theorem State.lineGap_cases :
    (s.rxState = .collecting ∧ s.lineGap = s.closeFrame) ∨ (s.rxState ≠ .collecting ∧ s.lineGap = s) := by
  unfold State.lineGap
  split
  · exact .inl ⟨s.rxActive_eq_true.mp ‹_›, rfl⟩
  · rename_i h
    exact .inr ⟨fun hc => h (s.rxActive_eq_true.mpr hc), rfl⟩

/-- A level of the reset input resets every field where it asserts, holds or releases the input; else nothing changes. -/
theorem State.pinReset_cases (level : Bool) :
    ((level = true ∨ s.resetIn = true) ∧ s.pinReset level = (s.setResetIn level).resetFields) ∨
    (level = false ∧ s.resetIn = false ∧ s.pinReset level = s) := by
  cases level <;> cases h : s.resetIn <;> simp [State.pinReset, h]

/-- What the next step of a state can be. -/
theorem turn_cases :
    (s.pending = [] ∧ s.resetIn = true ∧ turn s = .settle s.resetFields) ∨
    (s.pending = [] ∧ s.resetIn = false ∧ s.txState = .sending ∧ turn s = .run (.txeSend 0x00#8) s) ∨
    (s.pending = [] ∧ s.resetIn = false ∧ s.txState = .idle ∧ turn s = .settle s) ∨
    (∃ level rest, s.pending = .resetPin level :: rest ∧ turn s = .settle ((s.withPending rest).pinReset level)) ∨
    (∃ r rest, s.pending = .raw r :: rest ∧ s.resetIn = true ∧ isHostAccess r = true ∧
      turn s = .refuse .accessInReset) ∨
    (∃ r rest, s.pending = .raw r :: rest ∧ s.resetIn = true ∧ isHostAccess r = false ∧
      turn s = .settle (s.withPending rest).resetFields) ∨
    (∃ r rest i, s.pending = .raw r :: rest ∧ s.resetIn = false ∧ decode r = .instr i ∧
      turn s = .run i (s.withPending rest)) ∨
    (∃ r rest e, s.pending = .raw r :: rest ∧ s.resetIn = false ∧ decode r = .rejected e ∧
      turn s = .refuse (.badFrame e)) := by
  unfold turn
  cases hp : s.pending with
  | nil =>
    cases hr : s.resetIn
    · cases ht : s.txState
      · simp [turnEmpty, hr, State.txBusy, ht]
      · simp [turnEmpty, hr, State.txBusy, ht]
    · simp [turnEmpty, hr]
  | cons a rest =>
    cases a with
    | resetPin level => exact .inr (.inr (.inr (.inl ⟨level, rest, rfl, rfl⟩)))
    | raw r =>
      cases hr : s.resetIn
      · cases hd : decode r with
        | instr i => simp [turnRaw, hr, hd]
        | rejected e => simp [turnRaw, hr, hd]
      · cases ha : isHostAccess r <;> simp [turnRaw, hr, ha]

end Sys2Proof.Machine
end

