-- ==== Sys2Proof/Laws/PerInstr.lean ====
section
/-! SUPPORT. The family EncodesInItsRow: an instruction's encoding has the bits its row of the opcode table fixes. -/

namespace Sys2Proof.Laws

open Sys2Proof.Machine Sys2Proof.Config

/-- A well-formed instruction's raw input has the mask and match of its row in spec/opcode_table.json; `BUS_ERROR`, which
has no row of bits, encodes to the access it carries. -/
def EncodesInItsRow.Statement (i : Instr) : Prop :=
  i.wf = true →
    match tableRow i with
    | some row => ∃ n, tableNumber (encode i) = some n ∧ row.holds n = true
    | none => ∃ a, i = .busError a

/-- A row's bits checked field by field: its mask over `W` and `OFF` is `a`, over `DATA` is `l`. -/
theorem holds_of_fields (mask value a l v w : Nat) (wr : Bool) (off : Offset) (data : Word)
    (hm : mask = a * 2 ^ 32 + l) (hv : value = v * 2 ^ 32 + w) (hl : l < 2 ^ 32)
    (h1 : (wr.toNat * 2 ^ 12 + off.toNat) &&& a = v) (h2 : data.toNat &&& l = w) :
    (Row.mk mask value).holds (busWord wr off data).toNat = true := by
  simp only [Row.holds, beq_iff_eq]
  rw [hm, busWord_and _ _ _ _ _ hl, h1, h2, hv]

theorem and_low (n k : Nat) : n &&& (2 ^ k - 1) = n % 2 ^ k := Nat.and_two_pow_sub_one_eq_mod n k

theorem and_bit31 (d : Word) : d.toNat &&& 0x80000000 = if d.getLsbD 31 then 0x80000000 else 0 := by
  have : (0x80000000 : Nat) = 2 ^ 31 := by norm_num
  rw [this, Nat.and_two_pow, BitVec.getLsbD]
  cases d.toNat.testBit 31 <;> simp

theorem and_bit0 (d : Word) : d.toNat &&& 1 = if d.getLsbD 0 then 1 else 0 := by
  rw [show (1 : Nat) = 2 ^ 0 from rfl, Nat.and_two_pow, BitVec.getLsbD]
  cases d.toNat.testBit 0 <;> simp

theorem and_op (d : Word) : d.toNat &&& 15 = (goOp d).toNat := by
  rw [goOp_toNat]
  exact and_low d.toNat 4

/-- A mask inside `DATA[3:0]` sees only `OP`. -/
theorem and_op_of_le (d : Word) (l : Nat) (hl : l &&& 15 = l) : d.toNat &&& l = (goOp d).toNat &&& l := by
  rw [← and_op, Nat.and_assoc, Nat.and_comm 15 l, hl]

set_option maxRecDepth 20000 in
/-- The fixed bits of `W` and `OFF` for the 262 offsets of the window, by index range. -/
theorem rxbuf_row0 (wr : Bool) (i : Nat) (h : i < 256) :
    (wr.toNat * 2 ^ 12 + (regOffset (.rxbuf i)).toNat) &&& 0x1C03 = wr.toNat * 2 ^ 12 + 0x400 := by
  rw [rxbuf_offset_toNat i (by omega)]
  have : ∀ w : Bool, ∀ j : Fin 256, (w.toNat * 2 ^ 12 + (0x400 + 4 * j.val)) &&& 0x1C03 = w.toNat * 2 ^ 12 + 0x400 := by
    decide
  exact this wr ⟨i, h⟩

theorem rxbuf_row1 (wr : Bool) (i : Nat) (h : 256 ≤ i) (h' : i < 260) :
    (wr.toNat * 2 ^ 12 + (regOffset (.rxbuf i)).toNat) &&& 0x1FF3 = wr.toNat * 2 ^ 12 + 0x800 := by
  rw [rxbuf_offset_toNat i (by omega)]
  have : ∀ w : Bool, ∀ j : Fin 4, (w.toNat * 2 ^ 12 + (0x400 + 4 * (256 + j.val))) &&& 0x1FF3 = w.toNat * 2 ^ 12 + 0x800 := by
    decide
  have := this wr ⟨i - 256, by omega⟩
  rwa [show 256 + (i - 256) = i by omega] at this

theorem rxbuf_row2 (wr : Bool) (i : Nat) (h : 260 ≤ i) (h' : i < 262) :
    (wr.toNat * 2 ^ 12 + (regOffset (.rxbuf i)).toNat) &&& 0x1FFB = wr.toNat * 2 ^ 12 + 0x810 := by
  rw [rxbuf_offset_toNat i (by omega)]
  have : ∀ w : Bool, ∀ j : Fin 2, (w.toNat * 2 ^ 12 + (0x400 + 4 * (260 + j.val))) &&& 0x1FFB = w.toNat * 2 ^ 12 + 0x810 := by
    decide
  have := this wr ⟨i - 260, by omega⟩
  rwa [show 260 + (i - 260) = i by omega] at this

/-- Byte 3 of a built frame is its command byte. -/
theorem frame_byte3 (cmd : Byte) (p : List Byte) : tableNumber (.frame (buildFrame cmd p)) = some cmd.toNat := rfl

theorem event_holds (k : BitVec 2) (b : Byte) : (Row.mk 0x300 (k.toNat * 2 ^ 8)).holds (eventWord k b).toNat = true := by
  have hb := b.isLt
  have hk := k.isLt
  simp only [Row.holds, beq_iff_eq, eventWord_toNat]
  have h1 : (0x300 : Nat) = 3 * 2 ^ 8 := by norm_num
  rw [h1]
  apply Nat.eq_of_testBit_eq
  intro j
  have h3 : ∀ m, (3 : Nat).testBit m = decide (m < 2) := fun m => by
    rw [show (3 : Nat) = 2 ^ 2 - 1 from rfl, Nat.testBit_two_pow_sub_one]
  simp only [Nat.testBit_and, ← Nat.shiftLeft_eq, Nat.shiftLeft_add_eq_or_of_lt hb, Nat.testBit_or,
    Nat.testBit_shiftLeft, h3]
  by_cases hj : 8 ≤ j
  · have hb' : b.toNat.testBit j = false :=
      Nat.testBit_lt_two_pow (Nat.lt_of_lt_of_le hb (Nat.pow_le_pow_right (by omega) hj))
    by_cases hj2 : j - 8 < 2
    · simp [hj, hb', hj2]
    · have : k.toNat.testBit (j - 8) = false :=
        Nat.testBit_lt_two_pow (Nat.lt_of_lt_of_le hk (Nat.pow_le_pow_right (by omega) (Nat.le_of_not_lt hj2)))
      simp [hj, hb', hj2, this]
  · simp [hj]

theorem EncodesInItsRow.ctrlRd : EncodesInItsRow.Statement (.ctrlRd) := by
  exact fun _ => ⟨_, rfl, holds_of_fields _ _ 8191 0 0 0 _ _ _ rfl rfl (by decide) (by decide) (Nat.and_zero _)⟩

theorem EncodesInItsRow.ctrlWr (data : Word) : EncodesInItsRow.Statement (.ctrlWr data) := by
  intro h
  exact ⟨_, rfl, holds_of_fields _ _ 8191 2147483648 4096 0 _ _ _ rfl rfl (by decide) (by decide) (by rw [and_bit31]; simp [Instr.wf, srstBit] at h; simp [h])⟩

theorem EncodesInItsRow.ctrlSrst (data : Word) : EncodesInItsRow.Statement (.ctrlSrst data) := by
  intro h
  exact ⟨_, rfl, holds_of_fields _ _ 8191 2147483648 4096 2147483648 _ _ _ rfl rfl (by decide) (by decide) (by rw [and_bit31]; simp [Instr.wf, srstBit] at h; simp [h])⟩

theorem EncodesInItsRow.statusRd : EncodesInItsRow.Statement (.statusRd) := by
  exact fun _ => ⟨_, rfl, holds_of_fields _ _ 8191 0 4 0 _ _ _ rfl rfl (by decide) (by decide) (Nat.and_zero _)⟩

theorem EncodesInItsRow.statusWr (data : Word) : EncodesInItsRow.Statement (.statusWr data) := by
  exact fun _ => ⟨_, rfl, holds_of_fields _ _ 8191 0 4100 0 _ _ _ rfl rfl (by decide) (by decide) (Nat.and_zero _)⟩

theorem EncodesInItsRow.ieRd : EncodesInItsRow.Statement (.ieRd) := by
  exact fun _ => ⟨_, rfl, holds_of_fields _ _ 8191 0 8 0 _ _ _ rfl rfl (by decide) (by decide) (Nat.and_zero _)⟩

theorem EncodesInItsRow.ieWr (data : Word) : EncodesInItsRow.Statement (.ieWr data) := by
  exact fun _ => ⟨_, rfl, holds_of_fields _ _ 8191 0 4104 0 _ _ _ rfl rfl (by decide) (by decide) (Nat.and_zero _)⟩

theorem EncodesInItsRow.errRd : EncodesInItsRow.Statement (.errRd) := by
  exact fun _ => ⟨_, rfl, holds_of_fields _ _ 8191 0 12 0 _ _ _ rfl rfl (by decide) (by decide) (Nat.and_zero _)⟩

theorem EncodesInItsRow.errWr (data : Word) : EncodesInItsRow.Statement (.errWr data) := by
  exact fun _ => ⟨_, rfl, holds_of_fields _ _ 8191 0 4108 0 _ _ _ rfl rfl (by decide) (by decide) (Nat.and_zero _)⟩

theorem EncodesInItsRow.crcAccRd : EncodesInItsRow.Statement (.crcAccRd) := by
  exact fun _ => ⟨_, rfl, holds_of_fields _ _ 8191 0 16 0 _ _ _ rfl rfl (by decide) (by decide) (Nat.and_zero _)⟩

theorem EncodesInItsRow.crcAccWr (data : Word) : EncodesInItsRow.Statement (.crcAccWr data) := by
  exact fun _ => ⟨_, rfl, holds_of_fields _ _ 8191 0 4112 0 _ _ _ rfl rfl (by decide) (by decide) (Nat.and_zero _)⟩

theorem EncodesInItsRow.crcDataRd : EncodesInItsRow.Statement (.crcDataRd) := by
  exact fun _ => ⟨_, rfl, holds_of_fields _ _ 8191 0 20 0 _ _ _ rfl rfl (by decide) (by decide) (Nat.and_zero _)⟩

theorem EncodesInItsRow.crcDataWr (data : Word) : EncodesInItsRow.Statement (.crcDataWr data) := by
  exact fun _ => ⟨_, rfl, holds_of_fields _ _ 8191 0 4116 0 _ _ _ rfl rfl (by decide) (by decide) (Nat.and_zero _)⟩

theorem EncodesInItsRow.txCmdRd : EncodesInItsRow.Statement (.txCmdRd) := by
  exact fun _ => ⟨_, rfl, holds_of_fields _ _ 8191 0 24 0 _ _ _ rfl rfl (by decide) (by decide) (Nat.and_zero _)⟩

theorem EncodesInItsRow.txCmdWr (data : Word) : EncodesInItsRow.Statement (.txCmdWr data) := by
  exact fun _ => ⟨_, rfl, holds_of_fields _ _ 8191 0 4120 0 _ _ _ rfl rfl (by decide) (by decide) (Nat.and_zero _)⟩

theorem EncodesInItsRow.txDataRd : EncodesInItsRow.Statement (.txDataRd) := by
  exact fun _ => ⟨_, rfl, holds_of_fields _ _ 8191 0 28 0 _ _ _ rfl rfl (by decide) (by decide) (Nat.and_zero _)⟩

theorem EncodesInItsRow.txDataWr (data : Word) : EncodesInItsRow.Statement (.txDataWr data) := by
  exact fun _ => ⟨_, rfl, holds_of_fields _ _ 8191 0 4124 0 _ _ _ rfl rfl (by decide) (by decide) (Nat.and_zero _)⟩

theorem EncodesInItsRow.txGoRd : EncodesInItsRow.Statement (.txGoRd) := by
  exact fun _ => ⟨_, rfl, holds_of_fields _ _ 8191 0 32 0 _ _ _ rfl rfl (by decide) (by decide) (Nat.and_zero _)⟩

theorem EncodesInItsRow.goNop (data : Word) : EncodesInItsRow.Statement (.goNop data) := by
  intro h
  exact ⟨_, rfl, holds_of_fields _ _ 8191 15 4128 0 _ _ _ rfl rfl (by decide) (by decide) (by rw [and_op]; simp [Instr.wf] at h; simp [h])⟩

theorem EncodesInItsRow.goEncode (data : Word) : EncodesInItsRow.Statement (.goEncode data) := by
  intro h
  exact ⟨_, rfl, holds_of_fields _ _ 8191 15 4128 1 _ _ _ rfl rfl (by decide) (by decide) (by rw [and_op]; simp [Instr.wf] at h; simp [h])⟩

theorem EncodesInItsRow.goAck (data : Word) : EncodesInItsRow.Statement (.goAck data) := by
  intro h
  exact ⟨_, rfl, holds_of_fields _ _ 8191 15 4128 2 _ _ _ rfl rfl (by decide) (by decide) (by rw [and_op]; simp [Instr.wf] at h; simp [h])⟩

theorem EncodesInItsRow.goNak (data : Word) : EncodesInItsRow.Statement (.goNak data) := by
  intro h
  exact ⟨_, rfl, holds_of_fields _ _ 8191 15 4128 3 _ _ _ rfl rfl (by decide) (by decide) (by rw [and_op]; simp [Instr.wf] at h; simp [h])⟩

theorem EncodesInItsRow.goFlush (data : Word) : EncodesInItsRow.Statement (.goFlush data) := by
  intro h
  exact ⟨_, rfl, holds_of_fields _ _ 8191 15 4128 4 _ _ _ rfl rfl (by decide) (by decide) (by rw [and_op]; simp [Instr.wf] at h; simp [h])⟩

theorem EncodesInItsRow.goRsvd5 (data : Word) : EncodesInItsRow.Statement (.goRsvd5 data) := by
  intro h
  exact ⟨_, rfl, holds_of_fields _ _ 8191 15 4128 5 _ _ _ rfl rfl (by decide) (by decide) (by rw [and_op]; simp [Instr.wf] at h; simp [h])⟩

theorem EncodesInItsRow.goRsvd67 (data : Word) : EncodesInItsRow.Statement (.goRsvd67 data) := by
  intro h
  exact ⟨_, rfl, holds_of_fields _ _ 8191 14 4128 6 _ _ _ rfl rfl (by decide) (by decide) (by rw [and_op_of_le _ _ (by decide)]; simp [Instr.wf] at h; rcases h with h | h <;> simp [h])⟩

theorem EncodesInItsRow.goRsvd8F (data : Word) : EncodesInItsRow.Statement (.goRsvd8F data) := by
  intro h
  exact ⟨_, rfl, holds_of_fields _ _ 8191 8 4128 8 _ _ _ rfl rfl (by decide) (by decide) (by rw [and_op_of_le _ _ (by decide)]; revert h; simp only [Instr.wf]; generalize goOp data = o; revert o; decide)⟩

theorem EncodesInItsRow.txCountRd : EncodesInItsRow.Statement (.txCountRd) := by
  exact fun _ => ⟨_, rfl, holds_of_fields _ _ 8191 0 36 0 _ _ _ rfl rfl (by decide) (by decide) (Nat.and_zero _)⟩

theorem EncodesInItsRow.txLastCrcRd : EncodesInItsRow.Statement (.txLastCrcRd) := by
  exact fun _ => ⟨_, rfl, holds_of_fields _ _ 8191 0 40 0 _ _ _ rfl rfl (by decide) (by decide) (Nat.and_zero _)⟩

theorem EncodesInItsRow.txLastLenRd : EncodesInItsRow.Statement (.txLastLenRd) := by
  exact fun _ => ⟨_, rfl, holds_of_fields _ _ 8191 0 44 0 _ _ _ rfl rfl (by decide) (by decide) (Nat.and_zero _)⟩

theorem EncodesInItsRow.rxCtrlRd : EncodesInItsRow.Statement (.rxCtrlRd) := by
  exact fun _ => ⟨_, rfl, holds_of_fields _ _ 8191 0 48 0 _ _ _ rfl rfl (by decide) (by decide) (Nat.and_zero _)⟩

theorem EncodesInItsRow.rxCtrlNop (data : Word) : EncodesInItsRow.Statement (.rxCtrlNop data) := by
  intro h
  exact ⟨_, rfl, holds_of_fields _ _ 8191 1 4144 0 _ _ _ rfl rfl (by decide) (by decide) (by rw [and_bit0]; simp [Instr.wf, releaseBit] at h; simp [h])⟩

theorem EncodesInItsRow.rxRelease (data : Word) : EncodesInItsRow.Statement (.rxRelease data) := by
  intro h
  exact ⟨_, rfl, holds_of_fields _ _ 8191 1 4144 1 _ _ _ rfl rfl (by decide) (by decide) (by rw [and_bit0]; simp [Instr.wf, releaseBit] at h; simp [h])⟩

theorem EncodesInItsRow.rxCountRd : EncodesInItsRow.Statement (.rxCountRd) := by
  exact fun _ => ⟨_, rfl, holds_of_fields _ _ 8191 0 52 0 _ _ _ rfl rfl (by decide) (by decide) (Nat.and_zero _)⟩

theorem EncodesInItsRow.rxCrcCalcRd : EncodesInItsRow.Statement (.rxCrcCalcRd) := by
  exact fun _ => ⟨_, rfl, holds_of_fields _ _ 8191 0 56 0 _ _ _ rfl rfl (by decide) (by decide) (Nat.and_zero _)⟩

theorem EncodesInItsRow.rxCrcRecvRd : EncodesInItsRow.Statement (.rxCrcRecvRd) := by
  exact fun _ => ⟨_, rfl, holds_of_fields _ _ 8191 0 60 0 _ _ _ rfl rfl (by decide) (by decide) (Nat.and_zero _)⟩

theorem EncodesInItsRow.rxGapRd : EncodesInItsRow.Statement (.rxGapRd) := by
  exact fun _ => ⟨_, rfl, holds_of_fields _ _ 8191 0 64 0 _ _ _ rfl rfl (by decide) (by decide) (Nat.and_zero _)⟩

theorem EncodesInItsRow.rxGapWr (data : Word) : EncodesInItsRow.Statement (.rxGapWr data) := by
  exact fun _ => ⟨_, rfl, holds_of_fields _ _ 8191 0 4160 0 _ _ _ rfl rfl (by decide) (by decide) (Nat.and_zero _)⟩

theorem EncodesInItsRow.txPosRd : EncodesInItsRow.Statement (.txPosRd) := by
  exact fun _ => ⟨_, rfl, holds_of_fields _ _ 8191 0 68 0 _ _ _ rfl rfl (by decide) (by decide) (Nat.and_zero _)⟩

theorem EncodesInItsRow.txCountWr (data : Word) : EncodesInItsRow.Statement (.txCountWr data) := by
  exact fun _ => ⟨_, rfl, holds_of_fields _ _ 8191 0 4132 0 _ _ _ rfl rfl (by decide) (by decide) (Nat.and_zero _)⟩

theorem EncodesInItsRow.txLastCrcWr (data : Word) : EncodesInItsRow.Statement (.txLastCrcWr data) := by
  exact fun _ => ⟨_, rfl, holds_of_fields _ _ 8191 0 4136 0 _ _ _ rfl rfl (by decide) (by decide) (Nat.and_zero _)⟩

theorem EncodesInItsRow.txLastLenWr (data : Word) : EncodesInItsRow.Statement (.txLastLenWr data) := by
  exact fun _ => ⟨_, rfl, holds_of_fields _ _ 8191 0 4140 0 _ _ _ rfl rfl (by decide) (by decide) (Nat.and_zero _)⟩

theorem EncodesInItsRow.rxCountWr (data : Word) : EncodesInItsRow.Statement (.rxCountWr data) := by
  exact fun _ => ⟨_, rfl, holds_of_fields _ _ 8191 0 4148 0 _ _ _ rfl rfl (by decide) (by decide) (Nat.and_zero _)⟩

theorem EncodesInItsRow.rxCrcCalcWr (data : Word) : EncodesInItsRow.Statement (.rxCrcCalcWr data) := by
  exact fun _ => ⟨_, rfl, holds_of_fields _ _ 8191 0 4152 0 _ _ _ rfl rfl (by decide) (by decide) (Nat.and_zero _)⟩

theorem EncodesInItsRow.rxCrcRecvWr (data : Word) : EncodesInItsRow.Statement (.rxCrcRecvWr data) := by
  exact fun _ => ⟨_, rfl, holds_of_fields _ _ 8191 0 4156 0 _ _ _ rfl rfl (by decide) (by decide) (Nat.and_zero _)⟩

theorem EncodesInItsRow.txPosWr (data : Word) : EncodesInItsRow.Statement (.txPosWr data) := by
  exact fun _ => ⟨_, rfl, holds_of_fields _ _ 8191 0 4164 0 _ _ _ rfl rfl (by decide) (by decide) (Nat.and_zero _)⟩

theorem EncodesInItsRow.rxbufRd0 (i : Nat) : EncodesInItsRow.Statement (.rxbufRd0 i) := by
  intro h
  exact ⟨_, rfl, holds_of_fields _ _ 7171 0 _ 0 _ _ _ rfl rfl (by decide) (rxbuf_row0 false i (by simpa [Instr.wf] using h)) (Nat.and_zero _)⟩

theorem EncodesInItsRow.rxbufWr0 (i : Nat) (data : Word) : EncodesInItsRow.Statement (.rxbufWr0 i data) := by
  intro h
  exact ⟨_, rfl, holds_of_fields _ _ 7171 0 _ 0 _ _ _ rfl rfl (by decide) (rxbuf_row0 true i (by simpa [Instr.wf] using h)) (Nat.and_zero _)⟩

theorem EncodesInItsRow.rxbufRd1 (i : Nat) : EncodesInItsRow.Statement (.rxbufRd1 i) := by
  intro h
  exact ⟨_, rfl, holds_of_fields _ _ 8179 0 _ 0 _ _ _ rfl rfl (by decide) (rxbuf_row1 false i (by simp [Instr.wf] at h; exact h.1) (by simp [Instr.wf] at h; exact h.2)) (Nat.and_zero _)⟩

theorem EncodesInItsRow.rxbufWr1 (i : Nat) (data : Word) : EncodesInItsRow.Statement (.rxbufWr1 i data) := by
  intro h
  exact ⟨_, rfl, holds_of_fields _ _ 8179 0 _ 0 _ _ _ rfl rfl (by decide) (rxbuf_row1 true i (by simp [Instr.wf] at h; exact h.1) (by simp [Instr.wf] at h; exact h.2)) (Nat.and_zero _)⟩

theorem EncodesInItsRow.rxbufRd2 (i : Nat) : EncodesInItsRow.Statement (.rxbufRd2 i) := by
  intro h
  exact ⟨_, rfl, holds_of_fields _ _ 8187 0 _ 0 _ _ _ rfl rfl (by decide) (rxbuf_row2 false i (by simp [Instr.wf] at h; exact h.1) (by simp only [Instr.wf, Bool.and_eq_true, decide_eq_true_eq] at h; exact h.2)) (Nat.and_zero _)⟩

theorem EncodesInItsRow.rxbufWr2 (i : Nat) (data : Word) : EncodesInItsRow.Statement (.rxbufWr2 i data) := by
  intro h
  exact ⟨_, rfl, holds_of_fields _ _ 8187 0 _ 0 _ _ _ rfl rfl (by decide) (rxbuf_row2 true i (by simp [Instr.wf] at h; exact h.1) (by simp only [Instr.wf, Bool.and_eq_true, decide_eq_true_eq] at h; exact h.2)) (Nat.and_zero _)⟩

theorem EncodesInItsRow.busError (a : BadAccess) : EncodesInItsRow.Statement (.busError a) := by
  exact fun _ => ⟨a, rfl⟩

theorem EncodesInItsRow.txeSend (ignored : Byte) : EncodesInItsRow.Statement (.txeSend ignored) := by
  exact fun _ => ⟨_, rfl, event_holds _ _⟩

theorem EncodesInItsRow.rxeChar (b : Byte) : EncodesInItsRow.Statement (.rxeChar b) := by
  exact fun _ => ⟨_, rfl, event_holds _ _⟩

theorem EncodesInItsRow.rxeCharFerr (b : Byte) : EncodesInItsRow.Statement (.rxeCharFerr b) := by
  exact fun _ => ⟨_, rfl, event_holds _ _⟩

theorem EncodesInItsRow.rxeGap (ignored : Byte) : EncodesInItsRow.Statement (.rxeGap ignored) := by
  exact fun _ => ⟨_, rfl, event_holds _ _⟩

theorem EncodesInItsRow.cmdAck (payload : List Byte) : EncodesInItsRow.Statement (.cmdAck payload) := by
  exact fun _ => ⟨_, frame_byte3 _ _, rfl⟩

theorem EncodesInItsRow.cmdNak (payload : List Byte) : EncodesInItsRow.Statement (.cmdNak payload) := by
  exact fun _ => ⟨_, frame_byte3 _ _, rfl⟩

theorem EncodesInItsRow.cmdPoll (payload : List Byte) : EncodesInItsRow.Statement (.cmdPoll payload) := by
  exact fun _ => ⟨_, frame_byte3 _ _, rfl⟩

theorem EncodesInItsRow.cmdReset (payload : List Byte) : EncodesInItsRow.Statement (.cmdReset payload) := by
  exact fun _ => ⟨_, frame_byte3 _ _, rfl⟩

theorem EncodesInItsRow.cmdGetStatus (payload : List Byte) : EncodesInItsRow.Statement (.cmdGetStatus payload) := by
  exact fun _ => ⟨_, frame_byte3 _ _, rfl⟩

theorem EncodesInItsRow.cmdSetSecurity (payload : List Byte) : EncodesInItsRow.Statement (.cmdSetSecurity payload) := by
  exact fun _ => ⟨_, frame_byte3 _ _, rfl⟩

theorem EncodesInItsRow.cmdEnableBillTypes (payload : List Byte) : EncodesInItsRow.Statement (.cmdEnableBillTypes payload) := by
  exact fun _ => ⟨_, frame_byte3 _ _, rfl⟩

theorem EncodesInItsRow.cmdStack (payload : List Byte) : EncodesInItsRow.Statement (.cmdStack payload) := by
  exact fun _ => ⟨_, frame_byte3 _ _, rfl⟩

theorem EncodesInItsRow.cmdReturn (payload : List Byte) : EncodesInItsRow.Statement (.cmdReturn payload) := by
  exact fun _ => ⟨_, frame_byte3 _ _, rfl⟩

theorem EncodesInItsRow.cmdIdentification (payload : List Byte) : EncodesInItsRow.Statement (.cmdIdentification payload) := by
  exact fun _ => ⟨_, frame_byte3 _ _, rfl⟩

theorem EncodesInItsRow.cmdHold (payload : List Byte) : EncodesInItsRow.Statement (.cmdHold payload) := by
  exact fun _ => ⟨_, frame_byte3 _ _, rfl⟩

end Sys2Proof.Laws
end

