-- ==== Sys2Proof/Tests/Slice0.lean ====
section
/-! SUPPORT. Tests of one step, of decoding and of well-formedness, with values from spec/ (95_test_vectors.md unless a
comment says otherwise), and for each statement with hypotheses a witness that meets them. -/

namespace Sys2Proof.Tests

open Sys2Proof Sys2Proof.Config Sys2Proof.Machine

set_option maxRecDepth 20000

/-! Well-formedness: an ill-formed term of each check is refused. -/

theorem test_wf_refuses_ctrl_write_with_srst : Instr.wf (.ctrlWr 0x80000003#32) = false := by decide
theorem test_wf_refuses_srst_without_bit : Instr.wf (.ctrlSrst 0x7FFFFFFF#32) = false := by decide
theorem test_wf_refuses_go_nop : Instr.wf (.goNop 0x1#32) = false := by decide
theorem test_wf_refuses_go_encode : Instr.wf (.goEncode 0x12#32) = false := by decide
theorem test_wf_refuses_go_ack : Instr.wf (.goAck 0x3#32) = false := by decide
theorem test_wf_refuses_go_nak : Instr.wf (.goNak 0x2#32) = false := by decide
theorem test_wf_refuses_go_flush : Instr.wf (.goFlush 0x5#32) = false := by decide
theorem test_wf_refuses_go_rsvd5 : Instr.wf (.goRsvd5 0x4#32) = false := by decide
theorem test_wf_refuses_go_rsvd67 : Instr.wf (.goRsvd67 0x8#32) = false := by decide
theorem test_wf_refuses_go_rsvd8F : Instr.wf (.goRsvd8F 0x7#32) = false := by decide
theorem test_wf_refuses_rx_nop : Instr.wf (.rxCtrlNop 0x1#32) = false := by decide
theorem test_wf_refuses_rx_release : Instr.wf (.rxRelease 0x2#32) = false := by decide
theorem test_wf_refuses_rxbuf_rd0 : Instr.wf (.rxbufRd0 256) = false := by decide
theorem test_wf_refuses_rxbuf_wr0 : Instr.wf (.rxbufWr0 256 0#32) = false := by decide
theorem test_wf_refuses_rxbuf_rd1 : Instr.wf (.rxbufRd1 255) = false := by decide
theorem test_wf_refuses_rxbuf_rd1_high : Instr.wf (.rxbufRd1 260) = false := by decide
theorem test_wf_refuses_rxbuf_wr1 : Instr.wf (.rxbufWr1 260 0#32) = false := by decide
theorem test_wf_refuses_rxbuf_wr1_low : Instr.wf (.rxbufWr1 255 0#32) = false := by decide
theorem test_wf_refuses_rxbuf_rd2 : Instr.wf (.rxbufRd2 259) = false := by decide
theorem test_wf_refuses_rxbuf_rd2_high : Instr.wf (.rxbufRd2 262) = false := by decide
theorem test_wf_refuses_rxbuf_wr2 : Instr.wf (.rxbufWr2 262 0#32) = false := by decide
theorem test_wf_refuses_rxbuf_wr2_low : Instr.wf (.rxbufWr2 259 0#32) = false := by decide
theorem test_wf_refuses_bus_error_at_a_register : Instr.wf (.busError (.word 0x004400000000#45)) = false := by decide

/-- A payload one byte longer than the queue. -/
def tooLong : List Byte := List.replicate 257 0xAA#8

/-- A payload that fills the queue. -/
def fullPayload : List Byte := List.replicate 256 0xAA#8

theorem test_wf_refuses_long_payloads :
    Instr.wf (.cmdAck tooLong) = false ∧
    Instr.wf (.cmdNak tooLong) = false ∧
    Instr.wf (.cmdPoll tooLong) = false ∧
    Instr.wf (.cmdReset tooLong) = false ∧
    Instr.wf (.cmdGetStatus tooLong) = false ∧
    Instr.wf (.cmdSetSecurity tooLong) = false ∧
    Instr.wf (.cmdEnableBillTypes tooLong) = false ∧
    Instr.wf (.cmdStack tooLong) = false ∧
    Instr.wf (.cmdReturn tooLong) = false ∧
    Instr.wf (.cmdIdentification tooLong) = false ∧
    Instr.wf (.cmdHold tooLong) = false := by
  decide +kernel

theorem test_wf_admits_full_payloads :
    Instr.wf (.cmdAck fullPayload) = true ∧
    Instr.wf (.cmdNak fullPayload) = true ∧
    Instr.wf (.cmdPoll fullPayload) = true ∧
    Instr.wf (.cmdReset fullPayload) = true ∧
    Instr.wf (.cmdGetStatus fullPayload) = true ∧
    Instr.wf (.cmdSetSecurity fullPayload) = true ∧
    Instr.wf (.cmdEnableBillTypes fullPayload) = true ∧
    Instr.wf (.cmdStack fullPayload) = true ∧
    Instr.wf (.cmdReturn fullPayload) = true ∧
    Instr.wf (.cmdIdentification fullPayload) = true ∧
    Instr.wf (.cmdHold fullPayload) = true := by
  decide +kernel

/-! Decoding: for every row a word written out from spec/opcode_table.json (its `match` with operand bits added). -/

theorem test_decode_control :
    decode (.bus 0x000000000000#45) = .instr (.ctrlRd) ∧
    decode (.bus 0x10005EADBEEF#45) = .instr (.ctrlWr 0x5EADBEEF#32) ∧
    decode (.bus 0x1000DEADBEEF#45) = .instr (.ctrlSrst 0xDEADBEEF#32) ∧
    decode (.bus 0x000400000000#45) = .instr (.statusRd) ∧
    decode (.bus 0x1004DEADBEEF#45) = .instr (.statusWr 0xDEADBEEF#32) ∧
    decode (.bus 0x000800000000#45) = .instr (.ieRd) ∧
    decode (.bus 0x1008DEADBEEF#45) = .instr (.ieWr 0xDEADBEEF#32) ∧
    decode (.bus 0x000C00000000#45) = .instr (.errRd) ∧
    decode (.bus 0x100CDEADBEEF#45) = .instr (.errWr 0xDEADBEEF#32) ∧
    decode (.bus 0x004000000000#45) = .instr (.rxGapRd) ∧
    decode (.bus 0x1040DEADBEEF#45) = .instr (.rxGapWr 0xDEADBEEF#32) := by
  decide

theorem test_decode_crc_unit :
    decode (.bus 0x001000000000#45) = .instr (.crcAccRd) ∧
    decode (.bus 0x1010DEADBEEF#45) = .instr (.crcAccWr 0xDEADBEEF#32) ∧
    decode (.bus 0x001400000000#45) = .instr (.crcDataRd) ∧
    decode (.bus 0x1014DEADBEEF#45) = .instr (.crcDataWr 0xDEADBEEF#32) := by
  decide

theorem test_decode_encoder_1 :
    decode (.bus 0x001800000000#45) = .instr (.txCmdRd) ∧
    decode (.bus 0x1018DEADBEEF#45) = .instr (.txCmdWr 0xDEADBEEF#32) ∧
    decode (.bus 0x001C00000000#45) = .instr (.txDataRd) ∧
    decode (.bus 0x101CDEADBEEF#45) = .instr (.txDataWr 0xDEADBEEF#32) ∧
    decode (.bus 0x002000000000#45) = .instr (.txGoRd) ∧
    decode (.bus 0x1020DEADBEE0#45) = .instr (.goNop 0xDEADBEE0#32) ∧
    decode (.bus 0x1020DEADBEE1#45) = .instr (.goEncode 0xDEADBEE1#32) ∧
    decode (.bus 0x1020DEADBEE2#45) = .instr (.goAck 0xDEADBEE2#32) ∧
    decode (.bus 0x1020DEADBEE3#45) = .instr (.goNak 0xDEADBEE3#32) ∧
    decode (.bus 0x1020DEADBEE4#45) = .instr (.goFlush 0xDEADBEE4#32) ∧
    decode (.bus 0x1020DEADBEE5#45) = .instr (.goRsvd5 0xDEADBEE5#32) ∧
    decode (.bus 0x1020DEADBEE7#45) = .instr (.goRsvd67 0xDEADBEE7#32) := by
  decide

theorem test_decode_encoder_2 :
    decode (.bus 0x1020DEADBEEF#45) = .instr (.goRsvd8F 0xDEADBEEF#32) ∧
    decode (.bus 0x002400000000#45) = .instr (.txCountRd) ∧
    decode (.bus 0x002800000000#45) = .instr (.txLastCrcRd) ∧
    decode (.bus 0x002C00000000#45) = .instr (.txLastLenRd) ∧
    decode (.bus 0x004400000000#45) = .instr (.txPosRd) ∧
    decode (.bus 0x1024DEADBEEF#45) = .instr (.txCountWr 0xDEADBEEF#32) ∧
    decode (.bus 0x1028DEADBEEF#45) = .instr (.txLastCrcWr 0xDEADBEEF#32) ∧
    decode (.bus 0x102CDEADBEEF#45) = .instr (.txLastLenWr 0xDEADBEEF#32) ∧
    decode (.bus 0x1044DEADBEEF#45) = .instr (.txPosWr 0xDEADBEEF#32) := by
  decide

theorem test_decode_receiver_1 :
    decode (.bus 0x003000000000#45) = .instr (.rxCtrlRd) ∧
    decode (.bus 0x1030DEADBEEE#45) = .instr (.rxCtrlNop 0xDEADBEEE#32) ∧
    decode (.bus 0x1030DEADBEEF#45) = .instr (.rxRelease 0xDEADBEEF#32) ∧
    decode (.bus 0x003400000000#45) = .instr (.rxCountRd) ∧
    decode (.bus 0x003800000000#45) = .instr (.rxCrcCalcRd) ∧
    decode (.bus 0x003C00000000#45) = .instr (.rxCrcRecvRd) ∧
    decode (.bus 0x1034DEADBEEF#45) = .instr (.rxCountWr 0xDEADBEEF#32) ∧
    decode (.bus 0x1038DEADBEEF#45) = .instr (.rxCrcCalcWr 0xDEADBEEF#32) ∧
    decode (.bus 0x103CDEADBEEF#45) = .instr (.rxCrcRecvWr 0xDEADBEEF#32) ∧
    decode (.bus 0x07FC00000000#45) = .instr (.rxbufRd0 255) ∧
    decode (.bus 0x17FCDEADBEEF#45) = .instr (.rxbufWr0 255 0xDEADBEEF#32) ∧
    decode (.bus 0x080C00000000#45) = .instr (.rxbufRd1 259) := by
  decide

theorem test_decode_receiver_2 :
    decode (.bus 0x180CDEADBEEF#45) = .instr (.rxbufWr1 259 0xDEADBEEF#32) ∧
    decode (.bus 0x081400000000#45) = .instr (.rxbufRd2 261) ∧
    decode (.bus 0x1814DEADBEEF#45) = .instr (.rxbufWr2 261 0xDEADBEEF#32) := by
  decide

theorem test_decode_bus_error :
    decode (.bus 0x004800000000#45) = .instr (.busError (.word 0x004800000000#45)) ∧
    decode (.bus 0x000200000000#45) = .instr (.busError (.word 0x000200000000#45)) ∧
    decode (.bus 0x1FFC00000005#45) = .instr (.busError (.word 0x1FFC00000005#45)) ∧
    decode (.odd .half true 0x01C#12) = .instr (.busError (.width .half true 0x01C#12)) ∧
    decode (.odd .byte false 0x000#12) = .instr (.busError (.width .byte false 0x000#12)) := by
  decide

theorem test_decode_events :
    decode (.event 0x05A#10) = .instr (.txeSend 0x5A#8) ∧
    decode (.event 0x133#10) = .instr (.rxeChar 0x33#8) ∧
    decode (.event 0x280#10) = .instr (.rxeCharFerr 0x80#8) ∧
    decode (.event 0x301#10) = .instr (.rxeGap 0x01#8) := by
  decide

/-- Frames of spec/opcode_table.json and, for ENABLE_BILL_TYPES, of vector V15. -/
theorem test_decode_commands :
    decode (.frame [0x02#8, 0x03#8, 0x06#8, 0x00#8, 0xC2#8, 0x82#8]) = .instr (.cmdAck []) ∧
    decode (.frame [0x02#8, 0x03#8, 0x06#8, 0xFF#8, 0xBA#8, 0x8D#8]) = .instr (.cmdNak []) ∧
    decode (.frame [0x02#8, 0x03#8, 0x06#8, 0x33#8, 0xDA#8, 0x81#8]) = .instr (.cmdPoll []) ∧
    decode (.frame [0x02#8, 0x03#8, 0x06#8, 0x30#8, 0x41#8, 0xB3#8]) = .instr (.cmdReset []) ∧
    decode (.frame [0x02#8, 0x03#8, 0x06#8, 0x31#8, 0xC8#8, 0xA2#8]) = .instr (.cmdGetStatus []) ∧
    decode (.frame [0x02#8, 0x03#8, 0x09#8, 0x32#8, 0x00#8, 0x00#8, 0x00#8, 0x26#8, 0x1F#8]) = .instr (.cmdSetSecurity [0x00#8, 0x00#8, 0x00#8]) ∧
    decode (.frame [0x02#8, 0x03#8, 0x06#8, 0x35#8, 0xEC#8, 0xE4#8]) = .instr (.cmdStack []) ∧
    decode (.frame [0x02#8, 0x03#8, 0x06#8, 0x36#8, 0x77#8, 0xD6#8]) = .instr (.cmdReturn []) ∧
    decode (.frame [0x02#8, 0x03#8, 0x06#8, 0x37#8, 0xFE#8, 0xC7#8]) = .instr (.cmdIdentification []) ∧
    decode (.frame [0x02#8, 0x03#8, 0x06#8, 0x38#8, 0x09#8, 0x3F#8]) = .instr (.cmdHold []) ∧
    decode (.frame [0x02#8, 0x03#8, 0x0C#8, 0x34#8, 0xFF#8, 0xFF#8, 0xFF#8, 0x00#8, 0x00#8, 0x00#8, 0xB5#8, 0xC1#8]) =
      .instr (.cmdEnableBillTypes [0xFF#8, 0xFF#8, 0xFF#8, 0x00#8, 0x00#8, 0x00#8]) := by
  decide

/-- Byte sequences that are no command frame are rejected by the check that fails (30_encoding.md R86, R87, R89, R91). -/
theorem test_decode_rejects :
    decode (.frame [0x02#8, 0x03#8, 0x06#8, 0x33#8, 0xDA#8]) = .rejected .frameTooShort ∧
    decode (.frame [0x12#8, 0x03#8, 0x06#8, 0x33#8, 0x7B#8, 0x42#8]) = .rejected .badSync ∧
    decode (.frame [0x02#8, 0x04#8, 0x06#8, 0x33#8, 0xDA#8, 0x81#8]) = .rejected .badAddr ∧
    decode (.frame [0x02#8, 0x03#8, 0x07#8, 0x33#8, 0xDA#8, 0x81#8]) = .rejected .badLen ∧
    decode (.frame [0x02#8, 0x03#8, 0x06#8, 0x33#8, 0xDA#8, 0x80#8]) = .rejected .badChecksum ∧
    decode (.frame [0x02#8, 0x03#8, 0x06#8, 0x41#8, 0x4F#8, 0xD1#8]) = .rejected .unlistedCommand ∧
    decode (.frame (buildFrame 0x33#8 tooLong)) = .rejected .payloadTooLong := by
  decide +kernel

/-- The host's numbering of a row's word: CMD byte, event word, transaction word. -/
theorem test_decodeTableWord :
    decodeTableWord 8 0x33 = some (.cmdPoll []) ∧ decodeTableWord 8 0xFF = some (.cmdNak []) ∧
    decodeTableWord 16 0x133 = some (.rxeChar 0x33#8) ∧ decodeTableWord 48 0x101C00000005 = some (.txDataWr 0x5#32) ∧
    decodeTableWord 48 0x000400000000 = some .statusRd := by
  decide

/-! One step. -/

/-- A field of the state an instruction leaves, nothing where it stops. -/
def after {α : Type} (i : Instr) (s : State) (f : State → α) : Option α :=
  match exec i s with
  | .next t => some (f t)
  | .fault _ => none
  | .refused _ => none

/-- A field of the state a step on a placed raw input leaves. -/
def stepped {α : Type} (r : Raw) (s : State) (f : State → α) : Option α :=
  match step (s.place r) with
  | .next t => some (f t)
  | .fault _ => none
  | .refused _ => none

/-- A step's outcome: the next state, the fault or the refusal. -/
def outcome (s : State) : Option State × Option Fault × Option Refusal :=
  match step s with
  | .next t => (some t, none, none)
  | .fault f => (none, some f, none)
  | .refused r => (none, none, some r)

/-- The POLL frame (vector X8). -/
def poll : List Byte := [0x02#8, 0x03#8, 0x06#8, 0x33#8, 0xDA#8, 0x81#8]

/-- The ACK frame (vector X4). -/
def ack : List Byte := [0x02#8, 0x03#8, 0x06#8, 0x00#8, 0xC2#8, 0x82#8]

/-- A receiver with a complete frame. -/
def ready (f : List Byte) : State := { State.reset with rxEn := true, rxState := .ready, rxbuf := f }

/-- A receiver with part of a frame. -/
def collecting (f : List Byte) : State := { State.reset with rxEn := true, rxState := .collecting, rxbuf := f }

/-- A transmitter sending the ACK frame, at a position. -/
def sending (pos : Nat) : State :=
  { State.reset with
    txState := .sending, txFrame := ack, txPos := pos, txLastCrc := 0x82C2#16, txLastLen := 0x06#8,
    txLastTotal := 6#16 }

/-- A state with a payload queued. -/
def queued (p : List Byte) : State := { State.reset with txq := p }

theorem test_withFetchWord :
    (match step (State.reset.withFetchWord 48 0x101800000033) with
      | .next t => decide (t.txCmd = 0x33#8 ∧ t.pending = [])
      | .fault _ => false
      | .refused _ => false) = true := by
  decide

/-- V1. -/
theorem test_crcStep : crcStep 0x1234#16 0x33#8 = 0x74AD#16 ∧ crcStep 0xFFFF#16 0xFF#8 = 0x00FF#16 := by decide

/-- V2, the check value of 40_crc.md R113. -/
theorem test_crc16_check :
    crc16 [0x31#8, 0x32#8, 0x33#8, 0x34#8, 0x35#8, 0x36#8, 0x37#8, 0x38#8, 0x39#8] = 0x2189#16 := by decide

/-- V10. -/
theorem test_lenByte : [0, 3, 6, 243, 244, 245, 256].map lenByte =
    [0x06#8, 0x09#8, 0x0C#8, 0xF9#8, 0xFA#8, 0x00#8, 0x00#8] := by decide

/-- V11, the three frames at the length limit. -/
theorem test_frames_at_the_limit :
    [243, 244, 245].map (fun n => (buildFrame 0x33#8 (List.replicate n 0xAA#8)).drop (4 + n)) =
      [[0xB4#8, 0x9B#8], [0xDD#8, 0x20#8], [0x0A#8, 0x19#8]] := by
  decide +kernel

theorem test_ctrlRd : after .ctrlRd { State.reset with rxEn := true, baudSel := true } State.busResp =
    some (.data 0x3#32) := by decide
theorem test_ctrlWr : after (.ctrlWr 0x7FFFFFFF#32) State.reset (fun t => (t.rxEn, t.baudSel, t.faulted)) =
    some (true, true, false) := by decide
theorem test_ctrlWr_rate_in_flight : after (.ctrlWr 0x2#32) (sending 0) State.faulted = some true ∧
    after (.ctrlWr 0x3#32) (collecting [0x02#8]) State.faulted = some true ∧
    after (.ctrlWr 0x1#32) (collecting [0x02#8]) State.faulted = some false := by decide
theorem test_ctrlSrst : after (.ctrlSrst 0x80000003#32) { sending 2 with rxGap := 0x1E#8, faulted := true }
    (fun t => (t.rxEn, t.txState, t.rxGap, t.faulted)) = some (false, .idle, 20#8, true) := by decide
/-- V20 and V30. -/
theorem test_statusRd : after .statusRd (ready poll) State.busResp = some (.data 0x0F4#32) ∧
    after .statusRd { ready poll with ie := 0b010#3 } State.busResp = some (.data 0x2F4#32) := by decide
theorem test_statusRd_rows :
    ([[0x02#8, 0x03#8, 0x07#8, 0x33#8, 0xDA#8, 0x81#8], [0x12#8, 0x03#8, 0x06#8, 0x33#8, 0x7B#8, 0x42#8],
      [0x02#8, 0x04#8, 0x06#8, 0x33#8, 0xDA#8, 0x81#8], [0x02#8], [0x00#8, 0x00#8], ack ++ poll].map
        fun f => after .statusRd (ready f) State.busResp) =
      [some (.data 0x064#32), some (.data 0x0D4#32), some (.data 0x0A4#32), some (.data 0x024#32),
       some (.data 0x014#32), some (.data 0x074#32)] := by decide
theorem test_statusWr : after (.statusWr 0x2#32) { State.reset with txDone := true } State.txDone = some false ∧
    after (.statusWr 0xFFFFFFFD#32) { State.reset with txDone := true } State.txDone = some true := by decide
theorem test_ieRd : after .ieRd { State.reset with ie := 0b101#3 } State.busResp = some (.data 0x5#32) := by decide
theorem test_ieWr : after (.ieWr 0xFF#32) State.reset State.ie = some 0b111#3 := by decide
theorem test_errRd : after .errRd { State.reset with err := 0b10000#5 } State.busResp =
    some (.data 0x10#32) := by decide
theorem test_errWr : after (.errWr 0x4#32) { State.reset with err := 0b00101#5 } State.err = some 0b00001#5 ∧
    after (.errWr 0x1F#32) State.reset State.err = some 0b00000#5 := by decide
theorem test_rxGapRd : after .rxGapRd State.reset State.busResp = some (.data 0x14#32) := by decide
theorem test_rxGapWr : after (.rxGapWr 0x100#32) State.reset (fun t => (t.rxGap, t.gapInForce)) =
    some (0x00#8, 1) := by decide
/-- V5. -/
theorem test_crcAccRd : after .crcAccRd { State.reset with crcAcc := 0x2312#16 } State.busResp =
    some (.data 0x2312#32) := by decide
theorem test_crcAccWr : after (.crcAccWr 0x12345678#32) State.reset State.crcAcc = some 0x5678#16 := by decide
theorem test_crcDataRd : after .crcDataRd { State.reset with crcAcc := 0x2312#16 }
    (fun t => (t.busResp, t.crcAcc)) = some (.data 0x0#32, 0x2312#16) := by decide
theorem test_crcDataWr : after (.crcDataWr 0x102#32) State.reset State.crcAcc = some 0x2312#16 ∧
    after (.crcDataWr 0x2#32) { State.reset with crcAcc := 0x2312#16 } State.crcAcc = some 0x10A2#16 := by decide
theorem test_txCmdRd : after .txCmdRd { State.reset with txCmd := 0x33#8 } State.busResp =
    some (.data 0x33#32) := by decide
theorem test_txCmdWr : after (.txCmdWr 0x133#32) (sending 1) (fun t => (t.txCmd, t.txFrame)) =
    some (0x33#8, ack) := by decide
theorem test_txDataRd : after .txDataRd (queued [0x05#8]) (fun t => (t.busResp, t.txq)) =
    some (.data 0x0#32, [0x05#8]) := by decide
theorem test_txDataWr : after (.txDataWr 0x106#32) (queued [0x05#8]) State.txq = some [0x05#8, 0x06#8] := by decide
theorem test_txDataWr_full : after (.txDataWr 0x0#32) (queued fullPayload) (fun t => (t.txq.length, t.err)) =
    some (256, 0b00001#5) := by decide +kernel
theorem test_txGoRd : after .txGoRd State.reset (fun t => (t.busResp, t.txState)) =
    some (.data 0x0#32, .idle) := by decide
theorem test_goNop : after (.goNop 0x0#32) (sending 1) (fun t => (t.err, t.txPos)) = some (0b00000#5, 1) := by decide
/-- V14. -/
theorem test_goEncode : after (.goEncode 0x1#32) { queued [0x01#8, 0x02#8, 0x03#8] with txCmd := 0x34#8 }
    (fun t => (t.txFrame, t.txLastCrc, t.txq)) =
    some ([0x02#8, 0x03#8, 0x09#8, 0x34#8, 0x01#8, 0x02#8, 0x03#8, 0x4B#8, 0x0F#8], 0x0F4B#16, []) := by decide
theorem test_goEncode_busy : after (.goEncode 0x11#32) (sending 0) (fun t => (t.err, t.txFrame)) =
    some (0b00010#5, ack) := by decide
theorem test_goAck : after (.goAck 0x2#32) { queued [0x01#8, 0x02#8, 0x03#8] with txDone := true }
    (fun t => (t.txFrame, t.txq, t.txDone)) = some (ack, [0x01#8, 0x02#8, 0x03#8], false) := by decide
theorem test_goNak : after (.goNak 0x3#32) State.reset (fun t => (t.txFrame, t.txLastCrc)) =
    some ([0x02#8, 0x03#8, 0x06#8, 0xFF#8, 0xBA#8, 0x8D#8], 0x8DBA#16) := by decide
theorem test_goFlush : after (.goFlush 0x4#32) (queued [0x01#8]) State.txq = some [] := by decide
theorem test_goRsvd5 : after (.goRsvd5 0x5#32) State.reset State.err = some 0b00100#5 := by decide
theorem test_goRsvd67 : after (.goRsvd67 0x7#32) State.reset State.err = some 0b00100#5 := by decide
theorem test_goRsvd8F : after (.goRsvd8F 0x9#32) { State.reset with err := 0b00010#5 } State.err =
    some 0b00110#5 := by decide
theorem test_txCountRd : after .txCountRd (queued [0x01#8, 0x02#8, 0x03#8]) State.busResp =
    some (.data 0x3#32) := by decide
theorem test_txLastCrcRd : after .txLastCrcRd (sending 0) State.busResp = some (.data 0x82C2#32) := by decide
theorem test_txLastLenRd : after .txLastLenRd { State.reset with txLastTotal := 262#16 } State.busResp =
    some (.data 0x01060000#32) := by decide
theorem test_txPosRd : after .txPosRd (sending 2) State.busResp = some (.data 0x2#32) := by decide
theorem test_txCountWr : after (.txCountWr 0x5#32) State.reset (fun t => (t.txq, t.busResp)) =
    some ([], .done) := by decide
theorem test_txLastCrcWr : after (.txLastCrcWr 0x5#32) (sending 0) State.txLastCrc = some 0x82C2#16 := by decide
theorem test_txLastLenWr : after (.txLastLenWr 0x5#32) (sending 0) State.txLastLen = some 0x06#8 := by decide
theorem test_txPosWr : after (.txPosWr 0x5#32) (sending 2) State.txPos = some 2 := by decide
theorem test_rxCtrlRd : after .rxCtrlRd (ready poll) (fun t => (t.busResp, t.rxbuf)) =
    some (.data 0x0#32, poll) := by decide
theorem test_rxCtrlNop : after (.rxCtrlNop 0x2#32) (ready poll) State.rxState = some .ready := by decide
theorem test_rxRelease : after (.rxRelease 0x1#32) (ready poll) (fun t => (t.rxState, t.rxbuf)) =
    some (.idle, []) := by decide
theorem test_rxCountRd : after .rxCountRd (ready poll) State.busResp = some (.data 0x6#32) := by decide
theorem test_rxCrcCalcRd :
    after .rxCrcCalcRd (ready [0x02#8, 0x03#8, 0x06#8, 0x32#8, 0xDA#8, 0x81#8]) State.busResp =
      some (.data 0x9053#32) ∧ after .rxCrcCalcRd (ready [0x02#8]) State.busResp = some (.data 0x0#32) := by decide
theorem test_rxCrcRecvRd : after .rxCrcRecvRd (ready [0x02#8, 0x03#8]) State.busResp = some (.data 0x0302#32) ∧
    after .rxCrcRecvRd (collecting [0x02#8, 0x03#8]) State.busResp = some (.data 0x0#32) := by decide
theorem test_rxCountWr : after (.rxCountWr 0x0#32) (ready poll) State.rxbuf = some poll := by decide
theorem test_rxCrcCalcWr : after (.rxCrcCalcWr 0x0#32) (ready poll) State.busResp = some .done := by decide
theorem test_rxCrcRecvWr : after (.rxCrcRecvWr 0x0#32) (ready poll) State.busResp = some .done := by decide
theorem test_rxbufRd0 : after (.rxbufRd0 3) (ready poll) State.busResp = some (.data 0x33#32) ∧
    after (.rxbufRd0 6) (ready poll) State.busResp = some (.data 0x0#32) := by decide
theorem test_rxbufRd1 : after (.rxbufRd1 259) (ready (List.replicate 260 0xAA#8)) State.busResp =
    some (.data 0xAA#32) := by decide +kernel
theorem test_rxbufRd2 : after (.rxbufRd2 261) (ready (List.replicate 262 0xAA#8)) State.busResp =
    some (.data 0xAA#32) ∧ after (.rxbufRd2 261) (ready poll) State.busResp = some (.data 0x0#32) := by decide +kernel
theorem test_rxbufWr0 : after (.rxbufWr0 0 0xFF#32) (ready poll) State.rxbuf = some poll := by decide
theorem test_rxbufWr1 : after (.rxbufWr1 256 0xFF#32) (ready poll) State.rxbuf = some poll := by decide
theorem test_rxbufWr2 : after (.rxbufWr2 260 0xFF#32) (ready poll) State.rxbuf = some poll := by decide
/-- V31. -/
theorem test_busError : after (.busError (.word 0x004800000000#45)) State.reset State.busResp =
    some (.error 0x048#12) ∧
    after (.busError (.width .half true 0x01C#12)) State.reset (fun t => (t.busResp, t.txq)) =
      some (.error 0x01C#12, []) := by decide
theorem test_txeSend : after (.txeSend 0x00#8) (sending 0) (fun t => (t.line, t.txPos)) =
    some ([0x02#8], 1) := by decide
theorem test_txeSend_last : after (.txeSend 0x00#8) (sending 5) (fun t => (t.line, t.txState, t.txPos, t.txDone)) =
    some ([0x82#8], .idle, 0, true) := by decide
theorem test_rxeChar : after (.rxeChar 0x02#8) (collecting []) (fun t => (t.rxbuf, t.rxState)) =
    some ([0x02#8], .collecting) ∧ after (.rxeChar 0x02#8) State.reset State.rxbuf = some [] := by decide
theorem test_rxeChar_overrun : after (.rxeChar 0x03#8) (ready [0x02#8]) (fun t => (t.rxbuf, t.err)) =
    some ([0x02#8], 0b01000#5) := by decide
theorem test_rxeCharFerr : after (.rxeCharFerr 0x00#8) { State.reset with rxEn := true } (fun t => (t.rxbuf, t.err)) =
    some ([0x00#8], 0b10000#5) := by decide
theorem test_rxeCharFerr_overrun : after (.rxeCharFerr 0x00#8) (ready [0x02#8]) State.err = some 0b11000#5 := by decide
theorem test_rxeGap : after (.rxeGap 0x00#8) (collecting [0x02#8]) State.rxState = some .ready ∧
    after (.rxeGap 0x00#8) State.reset State.rxState = some .idle := by decide
/-- V15, and 44_protocol_commands.md R220: an ACK without payload keeps the queue and `TX_CMD`. -/
theorem test_cmdAck : after (.cmdAck []) (queued [0x01#8]) (fun t => (t.txFrame, t.txq)) =
    some (ack, [0x01#8]) := by decide
theorem test_cmdNak : after (.cmdNak []) State.reset (fun t => (t.txLastCrc, t.txCmd)) =
    some (0x8DBA#16, 0x00#8) := by decide
theorem test_cmdPoll : after (.cmdPoll []) State.reset (fun t => (t.txFrame, t.txCmd)) = some (poll, 0x33#8) := by decide
theorem test_cmdReset : after (.cmdReset []) State.reset State.txLastCrc = some 0xB341#16 := by decide
theorem test_cmdGetStatus : after (.cmdGetStatus []) State.reset State.txLastCrc = some 0xA2C8#16 := by decide
/-- P3: a command while sending is dropped, its code kept in `TX_CMD`. -/
theorem test_cmdGetStatus_busy : after (.cmdGetStatus []) (sending 0) (fun t => (t.err, t.txCmd, t.txFrame)) =
    some (0b00010#5, 0x31#8, ack) := by decide
theorem test_cmdSetSecurity : after (.cmdSetSecurity [0x00#8, 0x00#8, 0x00#8]) State.reset
    (fun t => (t.txLastCrc, t.txLastLen)) = some (0x1F26#16, 0x09#8) := by decide
theorem test_cmdEnableBillTypes :
    after (.cmdEnableBillTypes [0xFF#8, 0xFF#8, 0xFF#8, 0x00#8, 0x00#8, 0x00#8]) State.reset State.txLastCrc =
      some 0xC1B5#16 := by decide
theorem test_cmdStack : after (.cmdStack []) State.reset State.txLastCrc = some 0xE4EC#16 := by decide
theorem test_cmdReturn : after (.cmdReturn []) State.reset State.txLastCrc = some 0xD677#16 := by decide
theorem test_cmdIdentification : after (.cmdIdentification []) State.reset State.txLastCrc = some 0xC7FE#16 := by decide
theorem test_cmdHold : after (.cmdHold []) State.reset State.txLastCrc = some 0x3F09#16 := by decide

/-- 70_reset_and_hazards.md R270: an access while reset is asserted is refused, a character leaves the block at reset. -/
theorem test_access_in_reset : outcome { State.reset with resetIn := true, pending := [.raw (.bus 0x000400000000#45)] } =
      (none, none, some .accessInReset) ∧
    outcome { State.reset with resetIn := true, pending := [.raw (.event 0x102#10)] } =
      (some { State.reset with resetIn := true }, none, none) := by decide

/-- 70_reset_and_hazards.md R270: a released level while the input is released drops no frame being sent. -/
theorem test_released_level_repeated :
    outcome { sending 3 with pending := [.resetPin false] } = (some (sending 3), none, none) := by decide

/-! Witnesses: for each statement with hypotheses, states and operands that meet them, clause by clause, at the ends of
the ranges. -/

theorem witness_DecodeOfEncodeIsTheInstruction :
    Instr.wf (.rxbufRd0 255) = true ∧ Instr.wf (.rxbufRd1 256) = true ∧ Instr.wf (.rxbufWr1 259 0x1#32) = true ∧
    Instr.wf (.rxbufRd2 260) = true ∧ Instr.wf (.rxbufWr2 261 0x1#32) = true ∧ Instr.wf (.goRsvd67 0x6#32) = true ∧
    Instr.wf (.goRsvd8F 0x8#32) = true ∧ Instr.wf (.cmdPoll fullPayload) = true := by decide +kernel

theorem witness_EncodeOfDecodeIsTheInput :
    (Raw.bus 0x101C00000005#45).canonical = true ∧
    decode (.bus 0x101C00000005#45) = .instr (.txDataWr 0x5#32) ∧
    (Raw.bus 0x081400000000#45).canonical = true ∧ decode (.bus 0x081400000000#45) = .instr (.rxbufRd2 261) ∧
    (Raw.bus 0x081800000007#45).canonical = true ∧
    decode (.bus 0x081800000007#45) = .instr (.busError (.word 0x081800000007#45)) ∧
    (Raw.event 0x3FF#10).canonical = true ∧ decode (.event 0x3FF#10) = .instr (.rxeGap 0xFF#8) ∧
    (Raw.frame poll).canonical = true ∧ decode (.frame poll) = .instr (.cmdPoll []) := by decide

theorem witness_DecodedInstructionIsWellFormed :
    decode (.bus 0x007FFFFFFFFF#45) = .instr (.busError (.word 0x007FFFFFFFFF#45)) ∧
    decode (.frame (buildFrame 0x38#8 fullPayload)) = .instr (.cmdHold fullPayload) := by decide +kernel

theorem witness_BusWordDecodesToTheOneRowItMatches :
    (⟨0x1FFB00000000, 0x081000000000⟩ : Row) ∈ busRows ∧
    Row.holds ⟨0x1FFB00000000, 0x081000000000⟩ 0x081400000000 = true ∧
    decodeBus 0x004800000000#45 = .busError (.word 0x004800000000#45) := by decide

theorem witness_StepRunsTheDecodedInstruction :
    (State.reset.place (.bus 0x101800000033#45)).resetIn = false ∧
    (State.reset.place (.bus 0x101800000033#45)).pending = .raw (.bus 0x101800000033#45) :: [] ∧
    decode (.bus 0x101800000033#45) = .instr (.txCmdWr 0x33#32) := by decide

theorem witness_EngineStepsWhenNothingIsPending :
    (sending 5).resetIn = false ∧ (sending 5).pending = [] ∧ (sending 5).txState = .sending ∧
    State.reset.resetIn = false ∧ State.reset.pending = [] ∧ State.reset.txState = .idle := by decide

theorem witness_StepRefusesOnlyInResetOrOnNoFrame :
    outcome { State.reset with resetIn := true, pending := [.raw (.frame poll)] } =
      (none, none, some .accessInReset) ∧
    outcome { State.reset with pending := [.raw (.frame [])] } = (none, none, some (.badFrame .frameTooShort)) := by decide

theorem witness_ResetInputGivesEveryFieldItsResetValue :
    ({ sending 3 with pending := [.resetPin true] } : State).pending = .resetPin true :: [] ∧
    ({ State.reset with resetIn := true, pending := [.resetPin false] } : State).resetIn = true ∧
    ({ sending 3 with pending := [.resetPin false] } : State).resetIn = false ∧
    isHostAccess (.odd .byte true 0x000#12) = true ∧
    outcome { State.reset with resetIn := true } = (some { State.reset with resetIn := true }, none, none) := by decide

theorem witness_EveryRegisterReadsItsResetValueAfterReset :
    State.AtReset { State.reset with faulted := true, line := ack } ∧
    after (.ctrlSrst 0x80000000#32) (sending 3) (fun t => decide t.AtReset) = some true ∧
    outcome { sending 3 with pending := [.resetPin true] } = (some { State.reset with resetIn := true }, none, none) ∧
    outcome { State.reset with resetIn := true, pending := [.resetPin false] } = (some State.reset, none, none) := by decide

theorem witness_SoftResetResetsInOneStep : (0x80000003#32 : Word).getLsbD 31 = true := by decide

theorem witness_StepKeepsTheInvariant :
    (sending 5).Inv ∧ (outcome (sending 5)).1.map State.line = some [0x82#8] ∧
    (ready poll).Inv ∧ (collecting [0x02#8]).Inv :=
  ⟨by decide, by decide, by decide, by decide⟩

theorem witness_StepFromTheInvariantNeverFaults :
    (sending 0).Inv ∧ outcome (sending 6) = (none, some .txPosPastFrame, none) := by decide

theorem witness_FaultedIsNeverCleared :
    after (.ctrlSrst 0x80000000#32) { State.reset with faulted := true } State.faulted = some true := by decide

theorem witness_OnlyARateChangeInFlightFaults :
    after (.ctrlWr 0x2#32) (sending 0) State.faulted = some true ∧
    after .statusRd { State.reset with faulted := true } State.faulted = some true := by decide

theorem witness_CrcResidueLinearityAndErrorDetection :
    frameCrcOk poll = true ∧ (5 : Nat) < poll.length ∧ (7 : Nat) < 8 ∧ crc16 poll = 0x0000#16 ∧
    (∀ f ∈ [poll, ack, []], crc16 f = 0x0000#16) ∧ poll.length = ack.length := by decide

theorem witness_ChecksumTestIsZeroResidue :
    2 ≤ ([0x00#8, 0x00#8] : List Byte).length ∧ ([0x00#8] : List Byte).length < 2 := by decide

theorem witness_CrcUnitComputesTheChecksumOfWrittenBytes :
    ({ State.reset with crcAcc := 0xFAE6#16 } : State).crcAcc = crc16 [0x02#8, 0x03#8, 0x06#8] ∧
    State.reset.resetIn = false := by decide

theorem witness_LenByteIsTotalOrZeroAbove250 :
    244 ≤ 244 ∧ (lenByte 244).toNat = 250 ∧ 245 ≤ 245 ∧ lenByte 245 = 0x00#8 := by decide

theorem witness_FrameLayoutIndexByIndex : 255 < fullPayload.length := by decide +kernel

theorem witness_TxDataWriteAppendsOrOverflows :
    (queued (List.replicate 255 0xAA#8)).txq.length < 256 ∧ 256 ≤ (queued fullPayload).txq.length := by decide +kernel

theorem witness_TxCmdWriteSetsTheCommandByte :
    State.reset.txState = .idle ∧ State.reset.txq = [] ∧ State.reset.txCmd = 0x00#8 ∧
    after (.goEncode 0x1#32) State.reset State.txFrame = some ack ∧
    after (.goEncode 0x1#32) { State.reset with txCmd := 0xFF#8 } State.txCmd = some 0xFF#8 ∧
    after (.cmdPoll []) (sending 0) State.txCmd = some 0x33#8 := by decide

theorem witness_FrameStartWhileSendingOnlySetsBusyError : (sending 0).txState = .sending := by decide

theorem witness_EncodeLatchesTheFrameOfCommandAndQueue :
    (0xFFFFFFF1#32 : Word).extractLsb' 0 4 = 0x1#4 ∧ (queued fullPayload).txState = .idle ∧
    (sending 5).txState = .sending := by decide

theorem witness_AckAndNakLatchTheirFixedFrames :
    (0xFFFFFFF2#32 : Word).extractLsb' 0 4 = 0x2#4 ∧ (0xFFFFFFF3#32 : Word).extractLsb' 0 4 = 0x3#4 ∧
    (queued [0x01#8]).txState = .idle ∧ (sending 5).txState = .sending := by decide

theorem witness_NopFlushAndReservedOperations :
    (0xFFFFFFF0#32 : Word).extractLsb' 0 4 = 0x0#4 ∧ (0xFFFFFFF4#32 : Word).extractLsb' 0 4 = 0x4#4 ∧
    0x5#4 ≤ (0x5#32 : Word).extractLsb' 0 4 ∧ 0x5#4 ≤ (0xF#32 : Word).extractLsb' 0 4 := by decide

theorem witness_EngineSendsTheNextCharacter :
    (sending 5).txState = .sending ∧ (sending 5).txFrame[(sending 5).txPos]? = some 0x82#8 ∧
    (sending 5).txPos + 1 = (sending 5).txFrame.length ∧ (sending 4).txFrame[(sending 4).txPos]? = some 0xC2#8 ∧
    (sending 4).txPos + 1 ≠ (sending 4).txFrame.length ∧ State.reset.txState = .idle := by decide

theorem witness_EveryLatchedFrameIsSentWhole :
    (sending 0).resetIn = false ∧ (sending 0).pending = [] ∧ (sending 0).txState = .sending ∧
    (sending 0).txPos < (sending 0).txFrame.length ∧ (sending 5).txPos < (sending 5).txFrame.length := by decide

theorem witness_BuiltFrameValidatesAtAReceiver :
    fullPayload.length ≤ 256 ∧ ({ State.reset with rxEn := true } : State).resetIn = false ∧
    ({ State.reset with rxEn := true } : State).rxEn = true ∧
    ({ State.reset with rxEn := true } : State).rxState = .idle ∧
    ({ State.reset with rxEn := true } : State).rxbuf = [] := by decide +kernel

theorem witness_CharacterIsDiscardedWhileDisabled :
    State.reset.rxEn = false ∧ ({ collecting [0x02#8] with rxEn := false } : State).rxEn = false ∧
    ({ collecting [0x02#8] with rxEn := false } : State).rxState = .collecting := by decide

theorem witness_CharacterIsStoredOrDroppedWhileEnabled :
    (ready poll).rxEn = true ∧ (ready poll).rxState = .ready ∧
    (collecting (List.replicate 262 0x00#8)).rxbuf.length = 262 ∧
    (collecting (List.replicate 261 0x00#8)).rxState ≠ .ready ∧
    (collecting (List.replicate 261 0x00#8)).rxbuf.length ≠ 262 := by decide +kernel

theorem witness_GapClosesACollectedFrame :
    (collecting [0x02#8]).rxState = .collecting ∧ State.reset.rxState ≠ .collecting ∧
    (ready poll).rxState ≠ .collecting ∧ ({ State.reset with rxGap := 0#8 } : State).rxGap = 0#8 ∧
    ({ State.reset with rxGap := 1#8 } : State).rxGap ≠ 0#8 := by decide

/-- Two bytes and one, 250 and 251, Ready and not. -/
theorem witness_ValidationResultsOfAReadyFrame :
    (ready [0x00#8, 0x00#8]).rxState = .ready ∧ 2 ≤ (ready [0x00#8, 0x00#8]).rxbuf.length ∧
    (ready [0x02#8]).rxbuf.length < 2 ∧ (collecting [0x02#8, 0x03#8]).rxState ≠ .ready ∧
    frameLenOk (buildFrame 0x33#8 (List.replicate 244 0xAA#8)) = true ∧
    frameLenOk (buildFrame 0x33#8 (List.replicate 245 0xAA#8)) = true ∧ frameLenOk poll = true := by decide +kernel

theorem witness_FramesRunTogetherAreCaughtByLenUpTo250 :
    frameAccepted (buildFrame 0x33#8 (List.replicate 244 0xAA#8)) = true ∧
    (buildFrame 0x33#8 (List.replicate 244 0xAA#8)).length ≤ 250 ∧ frameAccepted ack = true ∧
    frameAccepted (buildFrame 0x33#8 (List.replicate 245 0xAA#8)) = true ∧
    250 < (buildFrame 0x33#8 (List.replicate 245 0xAA#8)).length := by decide +kernel

theorem witness_ReceiverRegisterReads :
    (261 : Nat) < 262 ∧ (ready (List.replicate 262 0xAA#8)).WithinCapacity ∧
    (ready (List.replicate 262 0xAA#8)).rxbuf[261]? = some 0xAA#8 ∧
    (ready (List.replicate 262 0xAA#8)).rxbuf[255]? = some 0xAA#8 ∧ (ready poll).rxbuf.length ≤ 6 ∧
    (ready poll).rxbuf[5]? = some 0x81#8 := by decide +kernel

theorem witness_ReleaseDiscardsTheFrame :
    (0x1#32 : Word).getLsbD 0 = true ∧ (0xFFFFFFFE#32 : Word).getLsbD 0 = false := by decide

theorem witness_CtrlWriteSetsEnableAndRate :
    (0x7FFFFFFF#32 : Word).getLsbD 31 = false ∧ (0x80000000#32 : Word).getLsbD 31 = true := by decide

theorem witness_StatusReadShowsEveryBit :
    (sending 0).txState = .sending ∧ (ready ack).rxState = .ready ∧ frameCrcOk (ready ack).rxbuf = true ∧
    frameLenOk (ready ack).rxbuf = true ∧ (collecting [0x02#8]).rxState = .collecting ∧
    (collecting [0x02#8]).statusValue.getLsbD 2 = false := by decide

theorem witness_InterruptFallsWhenItsSourcesAreServed :
    ({ ready poll with ie := 0b010#3 } : State).irq = true ∧ (ready poll).resetIn = false := by decide

/-- Both sides of the register map's ends: the last and first offsets around each hole. -/
theorem witness_InadmissibleAccessIsABusError :
    regAt 0x044#12 = some .txPos ∧ regAt 0x048#12 = none ∧ regAt 0x3FC#12 = none ∧ regAt 0x400#12 = some (.rxbuf 0) ∧
    regAt 0x814#12 = some (.rxbuf 261) ∧ regAt 0x818#12 = none ∧ regAt 0xFFC#12 = none ∧ regAt 0x401#12 = none ∧
    regAt 0x002#12 = none := by decide

/-- A width that is none of 4, 1 and 2, and addresses just outside the window, whatever `BASE` is. -/
theorem witness_HostAccessReachesItsOffset :
    (0 : Nat) ≠ 4 ∧ (0 : Nat) ≠ 1 ∧ (0 : Nat) ≠ 2 ∧ base + 0x1000 ≤ base + 0x1000 ∧ (∀ a, a + 1 = base → a < base) := by
  refine ⟨by decide, by decide, by decide, Nat.le_refl _, ?_⟩
  intro a h
  omega

theorem witness_ReservedBitsReadZeroAndIgnoreWrites :
    State.reset.resetIn = false ∧ regExists (.rxbuf 261) = true ∧ regExists (.rxbuf 262) = false ∧
    regExists .status = true ∧ writeMask .txCount = 0#32 := by decide

theorem witness_WindowReadAnswersTheRegisterMap :
    (ready poll).resetIn = false ∧ (ready poll).windowRead 0x40C#12 = some 0x33#32 ∧
    (ready poll).windowRead 0x3FC#12 = none ∧
    stepped (.bus 0x03FC00000000#45) (ready poll) State.busResp = some (.error 0x3FC#12) ∧
    stepped (.bus 0x040C00000000#45) (ready poll) State.busResp = some (.data 0x33#32) := by decide

theorem witness_CommandLatchesExactlyItsFrame :
    State.reset.txState = .idle ∧ State.reset.txq = [] ∧ fullPayload.length ≤ 256 ∧ ([0x01#8] : List Byte) ≠ [] ∧
    (queued fullPayload).txState = .idle := by decide +kernel

theorem witness_CommandIsItsLinesRunOneByOne :
    State.reset.resetIn = false ∧ (sending 0).resetIn = false ∧ ([0x01#8] : List Byte) ≠ [] ∧
    after (.cmdAck [0x01#8]) State.reset State.txState = some .sending ∧
    after (.cmdNak []) (sending 0) State.err = some 0b00010#5 ∧
    after (.cmdHold []) (queued [0x05#8]) State.txq = some [] := by decide

theorem witness_TransmitterAndReceiverStepsCommute :
    after (.txeSend 0x00#8) { sending 5 with rxEn := true } State.txState = some .idle ∧
    after (.rxeChar 0x02#8) { sending 5 with rxEn := true } State.rxbuf = some [0x02#8] ∧
    after (.rxeGap 0x00#8) (collecting [0x02#8]) State.rxState = some .ready ∧
    after (.txeSend 0x00#8) (collecting [0x02#8]) State.rxState = some .collecting := by decide

theorem witness_FrameBeingSentChangesOnlyByReset :
    (sending 4).txState = .sending ∧ after (.goEncode 0x1#32) (sending 4) State.txPos = some 4 ∧
    after (.txeSend 0x00#8) (sending 4) State.txPos = some 5 ∧
    after (.txeSend 0x00#8) (sending 5) State.txState = some .idle := by decide

/-- Each error bit newly set by its event, and a set bit cleared by writing 1 to it. -/
theorem witness_ErrorBitsAreStickyAndSetOnlyByTheirEvents :
    after (.txDataWr 0x0#32) (queued fullPayload) State.err = some 0b00001#5 ∧
    after (.cmdPoll [0x01#8]) (queued fullPayload) State.err = some 0b00001#5 ∧
    after (.goAck 0x2#32) (sending 0) State.err = some 0b00010#5 ∧
    after (.goRsvd5 0x5#32) State.reset State.err = some 0b00100#5 ∧
    after (.rxeChar 0x00#8) (collecting (List.replicate 262 0x00#8)) State.err = some 0b01000#5 ∧
    after (.rxeCharFerr 0x00#8) (collecting []) State.err = some 0b10000#5 ∧
    after (.errWr 0x10#32) { State.reset with err := 0b11111#5 } State.err = some 0b01111#5 := by decide +kernel

theorem witness_TxDoneChangesOnlyAsTheRuleSays :
    after (.txeSend 0x00#8) (sending 5) State.txDone = some true ∧
    after (.goAck 0x2#32) { State.reset with txDone := true } State.txDone = some false ∧
    after (.cmdStack []) { State.reset with txDone := true } State.txDone = some false ∧
    after (.statusWr 0x2#32) { State.reset with txDone := true } State.txDone = some false ∧
    after (.ctrlSrst 0x80000000#32) { State.reset with txDone := true } State.txDone = some false := by decide

end Sys2Proof.Tests
end

section
/-! How a raw input at the head of the pending inputs becomes the step's instruction, and the statements of the family
of 00_scope.md that follow from it. -/

namespace Sys2Proof.Proofs

open Sys2Proof.Machine

variable {s t : State} {r : Raw} {rest : List Input} {i : Instr}

/-- Stated at the state with the input already taken off, as `turn` passes it on. -/
theorem turnRaw_of_decode_instr (hreset : s.resetIn = false) (hdecode : decode r = .instr i) :
    turnRaw r s = .run i s := by
  simp [turnRaw, hreset, hdecode]

theorem turn_of_pending_raw (hpending : s.pending = .raw r :: rest) : turn s = turnRaw r (s.withPending rest) := by
  simp only [turn, hpending]

theorem step_of_turn_run (hturn : turn s = .run i t) : step s = exec i t := by
  simp only [step, hturn]

/-- The forward form of the decoded branch of `turn_cases`, for the step. -/
theorem step_of_pending_decoded (hreset : s.resetIn = false) (hpending : s.pending = .raw r :: rest)
    (hdecode : decode r = .instr i) : step s = exec i (s.withPending rest) := by
  have hreset' : (s.withPending rest).resetIn = false := by rw [State.withPending_resetIn, hreset]
  have hturn : turn s = .run i (s.withPending rest) := calc
    turn s = turnRaw r (s.withPending rest) := turn_of_pending_raw hpending
    _ = .run i (s.withPending rest) := turnRaw_of_decode_instr hreset' hdecode
  exact step_of_turn_run hturn

end Sys2Proof.Proofs

namespace Sys2Proof.Proofs

/-- Settles O8: the head of the pending list is taken off, decoded and run, with no other branch of `turn` open. -/
theorem stepRunsTheDecodedInstruction : Obligations.StepRunsTheDecodedInstruction := by
  intro s r rest i hreset hpending hdecode
  exact step_of_pending_decoded hreset hpending hdecode

end Sys2Proof.Proofs
end

section
/-! What an instruction can do to the transmitter, the receiver, `ERR` and `tx_done`, said once: `exec_effect` sorts the
67 instructions into the sixteen effects of `Effect`, and `step_next_cases` does the same for a step. The invariant and
the statements about `ERR` and `tx_done` are derived from these. -/

namespace Sys2Proof.Proofs

open Sys2Proof.Config Sys2Proof.Machine

/-- `t` is `s` but for the settings, the standalone CRC, the command byte, `faulted` and the bus response: the fields
that the invariant, `ERR` and `tx_done` say nothing of. -/
def SameEngines (s t : State) : Prop :=
  ∃ en sel ie crc cmd gap faulted resp,
    t = { s with rxEn := en, baudSel := sel, ie := ie, crcAcc := crc, txCmd := cmd, rxGap := gap, faulted := faulted,
                 busResp := resp }

/-- The instructions that ask for a frame: the three `TX_GO` operations of the busy rule (41_encoder.md R135) and the
command frames. -/
def AsksForFrame (i : Instr) : Prop :=
  (∃ d, i = .goEncode d ∨ i = .goAck d ∨ i = .goNak d) ∨ ∃ bytes, encode i = .frame bytes

/-- The effect of an instruction on the engines, `ERR` and `tx_done`, up to `SameEngines`; `exec_effect` ties it to
`exec`. -/
inductive Effect (s : State) : Instr → State → Prop
  | keep {i} : Effect s i s
  | softReset (d : Word) : Effect s (.ctrlSrst d) s.resetFields
  | clearTxDone (d : Word) (hbit : dataTxDone d = true) : Effect s (.statusWr d) s.clearTxDone
  | clearErr (d : Word) : Effect s (.errWr d) (s.clearErr (dataErr d))
  | push (d : Word) : Effect s (.txDataWr d) (s.push (dataByte d))
  | flush (d : Word) : Effect s (.goFlush d) s.emptyQueue
  | reserved {i} (hi : ∃ d, i = .goRsvd5 d ∨ i = .goRsvd67 d ∨ i = .goRsvd8F d) : Effect s i (s.setErr errTxOp)
  | startEncode (d : Word) : Effect s (.goEncode d) s.startEncode
  | minimal {i} (hi : AsksForFrame i) (cmd : Byte) : Effect s i (s.startMinimal cmd)
  | command {i} {cmd : Byte} {payload : List Byte} (hi : encode i = .frame (buildFrame cmd payload)) :
      Effect s i (s.sendCommand cmd payload)
  | sendMore (x b : Byte) (hsending : s.txState = .sending) (hinside : s.txPos < s.txFrame.length)
      (hmore : s.txPos + 1 ≠ s.txFrame.length) : Effect s (.txeSend x) (s.emit b)
  | sendLast (x b : Byte) (hsending : s.txState = .sending) (hlast : s.txPos + 1 = s.txFrame.length) :
      Effect s (.txeSend x) (s.emit b).finishFrame
  | char (b : Byte) : Effect s (.rxeChar b) (s.lineIn b true)
  | charFerr (b : Byte) : Effect s (.rxeCharFerr b) (s.lineIn b false)
  | gap (x : Byte) : Effect s (.rxeGap x) s.lineGap
  | release (d : Word) : Effect s (.rxRelease d) s.release

variable {s t u : State} {i : Instr}

theorem sameEngines_refl (s : State) : SameEngines s s := ⟨_, _, _, _, _, _, _, _, rfl⟩

theorem SameEngines.err (h : SameEngines s t) : t.err = s.err := by
  obtain ⟨_, _, _, _, _, _, _, _, rfl⟩ := h; rfl

theorem SameEngines.txDone (h : SameEngines s t) : t.txDone = s.txDone := by
  obtain ⟨_, _, _, _, _, _, _, _, rfl⟩ := h; rfl

theorem SameEngines.txState (h : SameEngines s t) : t.txState = s.txState := by
  obtain ⟨_, _, _, _, _, _, _, _, rfl⟩ := h; rfl

theorem sameEngines_respond (s : State) (r : BusResponse) : SameEngines s (s.respond r) := ⟨_, _, _, _, _, _, _, _, rfl⟩

theorem sameEngines_ctrlWr (s : State) (en sel : Bool) :
    SameEngines s (((s.baudHazard sel).setCtrl en sel).respond .done) := by
  unfold State.baudHazard
  split <;> exact ⟨_, _, _, _, _, _, _, _, rfl⟩

/-- A write that completes has the effect of its rule. -/
theorem effect_of_writeDone (he : Effect s i u) (h : u.writeDone = .next t) :
    ∃ u, Effect s i u ∧ SameEngines u t := by
  cases h
  exact ⟨u, he, sameEngines_respond u _⟩

/-- The engine's turn keeps the state or sends a character, the last or another one. -/
theorem effect_of_sendChar (x : Byte) (h : s.sendChar = .next t) : Effect s (.txeSend x) t := by
  obtain ⟨-, rfl⟩ | ⟨b, hsending, hget, ⟨hlast, rfl⟩ | ⟨hmore, rfl⟩⟩ := s.sendChar_cases h
  · exact .keep
  · exact .sendLast x b hsending hlast
  · exact .sendMore x b hsending (List.getElem?_eq_some_iff.mp hget).1 hmore

/-- If an instruction answers a next state, it had one of the sixteen effects and changed besides only fields that
`SameEngines` leaves free. -/
theorem exec_effect (h : exec i s = .next t) : ∃ u, Effect s i u ∧ SameEngines u t := by
  cases i
  case ctrlWr d => cases h; exact ⟨s, .keep, sameEngines_ctrlWr s _ _⟩
  case ctrlSrst d => exact effect_of_writeDone (.softReset d) h
  case statusWr d =>
    by_cases hbit : dataTxDone d = true
    · simp only [exec, execStatusWr, if_pos hbit] at h
      exact effect_of_writeDone (.clearTxDone d hbit) h
    · simp only [exec, execStatusWr, if_neg hbit] at h
      exact effect_of_writeDone .keep h
  case errWr d => exact effect_of_writeDone (.clearErr d) h
  case txDataWr d => exact effect_of_writeDone (.push d) h
  case goEncode d => exact effect_of_writeDone (.startEncode d) h
  case goAck d => exact effect_of_writeDone (.minimal (.inl ⟨d, .inr (.inl rfl)⟩) codeAck) h
  case goNak d => exact effect_of_writeDone (.minimal (.inl ⟨d, .inr (.inr rfl)⟩) codeNak) h
  case goFlush d => exact effect_of_writeDone (.flush d) h
  case goRsvd5 d => exact effect_of_writeDone (.reserved ⟨d, .inl rfl⟩) h
  case goRsvd67 d => exact effect_of_writeDone (.reserved ⟨d, .inr (.inl rfl)⟩) h
  case goRsvd8F d => exact effect_of_writeDone (.reserved ⟨d, .inr (.inr rfl)⟩) h
  case rxRelease d => exact effect_of_writeDone (.release d) h
  case txeSend x => exact ⟨t, effect_of_sendChar x h, sameEngines_refl t⟩
  case rxeChar b => cases h; exact ⟨_, .char b, sameEngines_refl _⟩
  case rxeCharFerr b => cases h; exact ⟨_, .charFerr b, sameEngines_refl _⟩
  case rxeGap x => cases h; exact ⟨_, .gap x, sameEngines_refl _⟩
  case cmdAck p =>
    cases p with
    | nil => exact effect_of_writeDone (.minimal (.inr ⟨_, rfl⟩) codeAck) h
    | cons b bs => exact effect_of_writeDone (.command rfl) h
  case cmdNak p =>
    cases p with
    | nil => exact effect_of_writeDone (.minimal (.inr ⟨_, rfl⟩) codeNak) h
    | cons b bs => exact effect_of_writeDone (.command rfl) h
  case cmdPoll | cmdReset | cmdGetStatus | cmdSetSecurity | cmdEnableBillTypes | cmdStack | cmdReturn |
      cmdIdentification | cmdHold => exact effect_of_writeDone (.command rfl) h
  -- Reads, ignored writes, settings and bus errors.
  all_goals cases h; exact ⟨s, .keep, _, _, _, _, _, _, _, _, rfl⟩

/-- Only the engine's own step can fault. -/
theorem exec_fault {f : Fault} (h : exec i s = .fault f) : s.sendChar = .fault f := by
  cases i
  case txeSend x => exact h
  all_goals cases h

/-- An instruction runs at the state with nothing but the list of inputs changed. -/
theorem state_of_turn_run {v : State} (h : turn s = .run i v) : ∃ rest, v = s.withPending rest := by
  obtain ⟨-, -, hturn⟩ | ⟨-, -, -, hturn⟩ | ⟨-, -, -, hturn⟩ | ⟨level, rest, -, hturn⟩ | ⟨r, rest, -, -, -, hturn⟩ |
    ⟨r, rest, -, -, -, hturn⟩ | ⟨r, rest, j, -, -, -, hturn⟩ | ⟨r, rest, e, -, -, -, hturn⟩ := turn_cases s
  all_goals cases hturn.symm.trans h
  · exact ⟨s.pending, rfl⟩
  · exact ⟨rest, rfl⟩

/-- If a step answers a next state, the reset input put every field at reset, or the block waited, or an instruction
ran with the input released and its own word off the list. -/
theorem step_next_cases (h : step s = .next t) :
    (∃ level rest, t = ((s.withPending rest).setResetIn level).resetFields) ∨
    (s.resetIn = false ∧ ∃ rest, t = s.withPending rest) ∨
    (s.resetIn = false ∧ ∃ i rest, exec i (s.withPending rest) = .next t) := by
  obtain ⟨-, -, hturn⟩ | ⟨-, hr, -, hturn⟩ | ⟨-, hr, -, hturn⟩ | ⟨level, rest, -, hturn⟩ | ⟨r, rest, -, -, -, hturn⟩ |
    ⟨r, rest, -, -, -, hturn⟩ | ⟨r, rest, i, -, hr, -, hturn⟩ | ⟨r, rest, e, -, -, -, hturn⟩ := turn_cases s
  all_goals simp only [step, hturn] at h
  · cases h; exact .inl ⟨s.resetIn, s.pending, rfl⟩
  · exact .inr (.inr ⟨hr, _, s.pending, h⟩)
  · cases h; exact .inr (.inl ⟨hr, s.pending, rfl⟩)
  · cases h
    obtain ⟨-, hpin⟩ | ⟨-, hr, hpin⟩ := (s.withPending rest).pinReset_cases level
    · exact .inl ⟨level, rest, hpin⟩
    · exact .inr (.inl ⟨hr, rest, hpin⟩)
  · cases h
  · cases h; exact .inl ⟨s.resetIn, rest, rfl⟩
  · exact .inr (.inr ⟨hr, i, rest, h⟩)
  · cases h

/-- A step faults only where the transmit engine's step does. -/
theorem step_fault_sendChar {f : Fault} (h : step s = .fault f) : ∃ rest, (s.withPending rest).sendChar = .fault f := by
  unfold step at h
  split at h
  case h_1 i v hturn =>
    obtain ⟨rest, rfl⟩ : ∃ rest, v = s.withPending rest := state_of_turn_run hturn
    exact ⟨rest, exec_fault h⟩
  all_goals cases h

end Sys2Proof.Proofs
end

section
/-! The invariant of 10_state.md R22: it holds at reset, every effect of an instruction keeps it, so every step
does, and it rules the one fault out. -/

namespace Sys2Proof.Proofs

open Sys2Proof.Config Sys2Proof.Machine

variable {s t u : State} {i : Instr}

/-! A built frame passes a receiver's four checks (42_decoder.md R170 to R172). -/

theorem frameCrcRecv_buildFrame (cmd : Byte) (p : List Byte) :
    frameCrcRecv (buildFrame cmd p) = crc16 (frameHead cmd p) := by
  have hlow : (buildFrame cmd p)[p.length + 4]'(by simp) = lo (crc16 (frameHead cmd p)) := by
    simp [buildFrame, checksumBytes, List.getElem_append]
  have hhigh : (buildFrame cmd p)[p.length + 5]'(by simp) = hi (crc16 (frameHead cmd p)) := by
    simp [buildFrame, checksumBytes, List.getElem_append]
  simp [frameCrcRecv, hlow, hhigh, halfOf_lo_hi]

theorem frameCrcOk_buildFrame (cmd : Byte) (p : List Byte) : frameCrcOk (buildFrame cmd p) = true := by
  simp [frameCrcOk, frameCrcCalc, frameCrcRecv_buildFrame]

theorem frameLenOk_buildFrame (cmd : Byte) (p : List Byte) : frameLenOk (buildFrame cmd p) = true := by
  have hlen : (buildFrame cmd p)[2]'(by simp) = lenByte p.length := rfl
  by_cases hfits : p.length + 6 ≤ 250
  · simp [frameLenOk, hlen, lenByte, hfits]
  · simp [frameLenOk, hlen, lenByte, hfits, Nat.lt_of_not_le hfits]

theorem frameAccepted_buildFrame (cmd : Byte) (p : List Byte) : frameAccepted (buildFrame cmd p) = true := by
  have hsync : frameSyncOk (buildFrame cmd p) = true := rfl
  have haddr : frameAddrOk (buildFrame cmd p) = true := by
    have hget : (buildFrame cmd p)[1]'(by simp) = addr := rfl
    simp [frameAddrOk, hget]
  simp [frameAccepted, frameCrcOk_buildFrame, hsync, haddr, frameLenOk_buildFrame]

/-! The invariant where instructions run. -/

/-- The invariant of a state whose reset input is released, where it says nothing of the reset values. -/
structure Sound (s : State) : Prop where
  released : s.resetIn = false
  tx : s.TxShape
  rx : s.RxShape
  queueFits : s.txq.length ≤ txqDepth
  bufferFits : s.rxbuf.length ≤ rxbufSize
  frameFits : s.txFrame.length ≤ txqDepth + frameOverhead
  frame : s.FrameSound

theorem Sound.inv (h : Sound s) : s.Inv :=
  ⟨h.tx, h.rx, ⟨h.queueFits, h.bufferFits, h.frameFits⟩, h.frame,
    fun hin => absurd (h.released.symm.trans hin) Bool.false_ne_true⟩

theorem sound_of_inv (hin : s.resetIn = false) (h : s.Inv) : Sound s := by
  obtain ⟨htx, hrx, ⟨hqueue, hbuffer, hfits⟩, hframe, -⟩ := h
  exact ⟨hin, htx, hrx, hqueue, hbuffer, hfits, hframe⟩

theorem inv_resetFields (s : State) : s.resetFields.Inv := by
  refine ⟨⟨fun _ => ⟨rfl, rfl⟩, ?_⟩, ⟨fun _ => rfl, fun _ => rfl⟩, ⟨?_, ?_, ?_⟩, ?_, fun _ => rfl⟩
  all_goals simp [State.reset]

theorem Sound.of_sameEngines (h : Sound s) (hst : SameEngines s t) : Sound t := by
  obtain ⟨_, _, _, _, _, _, _, _, rfl⟩ := hst
  exact ⟨h.released, h.tx, h.rx, h.queueFits, h.bufferFits, h.frameFits, h.frame⟩

theorem Sound.withPending (h : Sound s) (rest : List Input) : Sound (s.withPending rest) :=
  ⟨h.released, h.tx, h.rx, h.queueFits, h.bufferFits, h.frameFits, h.frame⟩

theorem Sound.setErr (h : Sound s) (m : BitVec 5) : Sound (s.setErr m) :=
  ⟨h.released, h.tx, h.rx, h.queueFits, h.bufferFits, h.frameFits, h.frame⟩

theorem Sound.clearErr (h : Sound s) (m : BitVec 5) : Sound (s.clearErr m) :=
  ⟨h.released, h.tx, h.rx, h.queueFits, h.bufferFits, h.frameFits, h.frame⟩

theorem Sound.clearTxDone (h : Sound s) : Sound s.clearTxDone :=
  ⟨h.released, h.tx, h.rx, h.queueFits, h.bufferFits, h.frameFits, h.frame⟩

theorem Sound.setCmd (h : Sound s) (cmd : Byte) : Sound (s.setCmd cmd) :=
  ⟨h.released, h.tx, h.rx, h.queueFits, h.bufferFits, h.frameFits, h.frame⟩

theorem Sound.resetFields (h : Sound s) : Sound s.resetFields :=
  sound_of_inv h.released (inv_resetFields s)

/-! The transmitter's operations. -/

theorem Sound.emptyQueue (h : Sound s) : Sound s.emptyQueue :=
  ⟨h.released, h.tx, h.rx, Nat.zero_le _, h.bufferFits, h.frameFits, h.frame⟩

theorem Sound.push (h : Sound s) (b : Byte) : Sound (s.push b) := by
  obtain ⟨hroom, heq⟩ | ⟨-, heq⟩ := s.push_cases b <;> rw [heq]
  · exact ⟨h.released, h.tx, h.rx, by simpa using hroom, h.bufferFits, h.frameFits, h.frame⟩
  · exact h.setErr _

theorem Sound.pushAll (h : Sound s) (bs : List Byte) : Sound (s.pushAll bs) := by
  induction bs generalizing s with
  | nil => exact h
  | cons b bs ih => exact ih (h.push b)

/-- A frame built from at most 256 bytes of payload is what the invariant wants of a latched frame. -/
theorem Sound.latch (h : Sound s) (cmd : Byte) {p : List Byte} (hp : p.length ≤ 256) :
    Sound (s.latch (buildFrame cmd p)) := by
  refine ⟨h.released, ?_, h.rx, h.queueFits, h.bufferFits, ?_,
    fun _ => ⟨?_, s.latch_txLastCrc _, s.latch_txLastLen _, ?_⟩⟩
  · simp [State.TxShape]
  · simpa using hp
  · exact frameAccepted_buildFrame cmd p
  · rw [State.latch_txLastTotal, State.latch_txFrame, BitVec.toNat_ofNat, buildFrame_length]
    omega

theorem Sound.unlessBusy (h : Sound s) (hu : Sound u) : Sound (s.unlessBusy u) := by
  obtain ⟨-, heq⟩ | ⟨-, heq⟩ := s.unlessBusy_cases u <;> rw [heq]
  · exact hu
  · exact h.setErr _

theorem Sound.startEncode (h : Sound s) : Sound s.startEncode :=
  h.unlessBusy (h.latch s.txCmd h.queueFits).emptyQueue

theorem Sound.startMinimal (h : Sound s) (cmd : Byte) : Sound (s.startMinimal cmd) :=
  h.unlessBusy (h.latch cmd (p := []) (Nat.zero_le _))

theorem Sound.sendCommand (h : Sound s) (cmd : Byte) (p : List Byte) : Sound (s.sendCommand cmd p) :=
  ((h.setCmd cmd).pushAll p).startEncode

theorem Sound.emit (h : Sound s) (b : Byte) (hsending : s.txState = .sending)
    (hinside : s.txPos + 1 < s.txFrame.length) : Sound (s.emit b) :=
  ⟨h.released, ⟨by simp [hsending], fun _ => hinside⟩, h.rx, h.queueFits, h.bufferFits, h.frameFits, h.frame⟩

theorem Sound.emit_finishFrame (h : Sound s) (b : Byte) : Sound (s.emit b).finishFrame :=
  ⟨h.released, ⟨fun _ => ⟨rfl, rfl⟩, by simp⟩, h.rx, h.queueFits, h.bufferFits, Nat.zero_le _,
    by simp [State.FrameSound]⟩

/-! The receiver's operations. -/

theorem Sound.release (h : Sound s) : Sound s.release :=
  ⟨h.released, h.tx, ⟨fun _ => rfl, fun _ => rfl⟩, h.queueFits, Nat.zero_le _, h.frameFits, h.frame⟩

theorem Sound.store (h : Sound s) (b : Byte) : Sound (s.store b) := by
  obtain ⟨-, heq⟩ | ⟨-, hroom, heq⟩ := s.store_cases b <;> rw [heq]
  · exact h.setErr _
  · have hlen : (s.collect b).rxbuf.length ≤ rxbufSize := by
      have := h.bufferFits
      simp only [State.collect_rxbuf, List.length_append, List.length_singleton]
      omega
    exact ⟨h.released, h.tx, by simp [State.RxShape], h.queueFits, hlen, h.frameFits, h.frame⟩

theorem Sound.lineIn (h : Sound s) (b : Byte) (ok : Bool) : Sound (s.lineIn b ok) := by
  obtain ⟨-, heq⟩ | ⟨-, -, heq⟩ | ⟨-, -, heq⟩ := s.lineIn_cases b ok <;> rw [heq]
  · exact h
  · exact h.store b
  · exact (h.store b).setErr _

/-- A frame being collected is not empty, so the receiver may be `Ready` with it. -/
theorem Sound.lineGap (h : Sound s) : Sound s.lineGap := by
  obtain ⟨hcollecting, heq⟩ | ⟨-, heq⟩ := s.lineGap_cases <;> rw [heq]
  · have hne : s.rxbuf ≠ [] := fun hnil => by simpa [hcollecting] using h.rx.mpr hnil
    exact ⟨h.released, h.tx, by simp [State.RxShape, hne], h.queueFits, h.bufferFits, h.frameFits, h.frame⟩
  · exact h

/-! Instructions and steps. -/

theorem Sound.effect (h : Sound s) (he : Effect s i u) : Sound u := by
  cases he with
  | keep => exact h
  | softReset d => exact h.resetFields
  | clearTxDone d hbit => exact h.clearTxDone
  | clearErr d => exact h.clearErr _
  | push d => exact h.push _
  | flush d => exact h.emptyQueue
  | reserved hi => exact h.setErr _
  | startEncode d => exact h.startEncode
  | minimal hi cmd => exact h.startMinimal cmd
  | command hi => exact h.sendCommand _ _
  | sendMore x b hsending hinside hmore => exact h.emit b hsending (by omega)
  | sendLast x b hsending hlast => exact h.emit_finishFrame b
  | char b => exact h.lineIn b true
  | charFerr b => exact h.lineIn b false
  | gap x => exact h.lineGap
  | release d => exact h.release

theorem Sound.exec (h : Sound s) (hexec : exec i s = .next t) : Sound t := by
  obtain ⟨u, heffect, hsame⟩ := exec_effect hexec
  exact (h.effect heffect).of_sameEngines hsame

/-- Settles O15: a reset makes the invariant true, a block that waits keeps it, and an instruction runs only with the
input released, where each of its effects keeps it. -/
theorem stepKeepsTheInvariant : Obligations.StepKeepsTheInvariant := by
  intro s t hinv hstep
  obtain ⟨level, rest, rfl⟩ | ⟨hin, rest, rfl⟩ | ⟨hin, i, rest, hexec⟩ := step_next_cases hstep
  · exact inv_resetFields _
  · exact ((sound_of_inv hin hinv).withPending rest).inv
  · exact (((sound_of_inv hin hinv).withPending rest).exec hexec).inv

/-- Settles O14: the state at the start of a run is its own reset. -/
theorem resetStateHasTheInvariant : Obligations.ResetStateHasTheInvariant :=
  inv_resetFields State.reset

/-- Settles O16: the engine faults only at a position outside its frame, which the invariant rules out. -/
theorem stepFromTheInvariantNeverFaults : Obligations.StepFromTheInvariantNeverFaults := by
  intro s f ⟨⟨_, hinside⟩, _⟩ hfault
  obtain ⟨rest, hsend⟩ := step_fault_sendChar hfault
  obtain ⟨hsending, hpast⟩ := State.sendChar_fault _ hsend
  exact absurd (hinside hsending) (Nat.not_lt.mpr hpast)

end Sys2Proof.Proofs
end

section
/-! What the registers read: the reset column of the register map (10_state.md R27), and a read at any offset
(20_memory.md R67). -/

namespace Sys2Proof.Proofs

open Sys2Proof.Config Sys2Proof.Machine

variable {s t : State}

/-! The reset values. -/

theorem resetFields_atReset (s : State) : s.resetFields.AtReset :=
  ⟨rfl, rfl, rfl, rfl, rfl, rfl, rfl, rfl, rfl, rfl, rfl, rfl, rfl, rfl, rfl, rfl, rfl⟩

theorem resetFields_eq_of_atReset (h : s.AtReset) : s.resetFields = s := by
  cases s
  simp only [State.AtReset] at h
  simp [State.resetFields, State.reset, h]

@[simp] theorem bitAt_false (n : Nat) : bitAt false n = 0#32 := by simp [bitAt]

/-- Engines at rest, nothing received and no error leave every bit of STATUS clear. -/
theorem statusValue_resetFields (s : State) : s.resetFields.statusValue = 0#32 := by
  have hbusy : s.resetFields.txBusy = false := rfl
  have hready : s.resetFields.rxReady = false := rfl
  have hactive : s.resetFields.rxActive = false := rfl
  simp [State.statusValue, State.reset, hbusy, hready, hactive, State.rxCrcOk, State.rxSyncOk, State.rxAddrOk,
    State.rxLenOk, State.errAny, State.irq]

theorem regValue_resetFields (s : State) (r : Reg) :
    s.resetFields.regValue r = if r = .rxGap then 20#32 else 0#32 := by
  cases r
  case ctrl => simp [State.regValue, State.ctrlValue, State.reset]
  case status => exact statusValue_resetFields s
  case txLastLen => simp [State.regValue, State.txLastLenValue, State.reset]
  all_goals rfl

theorem windowRead_of_atReset (h : s.AtReset) (off : Offset) :
    s.windowRead off = (regAt off).map (fun r => if r = .rxGap then 20#32 else 0#32) := by
  rw [State.windowRead, ← resetFields_eq_of_atReset h]
  exact congrArg (Option.map · _) (funext (regValue_resetFields s))

theorem ctrlSrst_atReset {d : Word} (h : exec (.ctrlSrst d) s = .next t) : t.AtReset ∧ t.faulted = s.faulted := by
  cases h
  exact ⟨resetFields_atReset s, rfl⟩

theorem step_of_pending_resetPin {level : Bool} {rest : List Input} (h : s.pending = .resetPin level :: rest) :
    step s = .next ((s.withPending rest).pinReset level) := by
  simp only [step, turn, h]

/-- A level that asserts, holds or releases the reset input resets every field. -/
theorem resetPin_atReset {level : Bool} {rest : List Input} (hpending : s.pending = .resetPin level :: rest)
    (hactive : level = true ∨ s.resetIn = true) (hstep : step s = .next t) : t.AtReset ∧ t.faulted = s.faulted := by
  cases (step_of_pending_resetPin hpending).symm.trans hstep
  obtain ⟨-, heq⟩ | ⟨hlevel, hin, -⟩ := (s.withPending rest).pinReset_cases level
  · rw [heq]
    exact ⟨resetFields_atReset _, rfl⟩
  · rw [State.withPending_resetIn] at hin
    simp [hlevel, hin] at hactive

/-- Settles O12: a state at reset is its own `resetFields`, whose registers are read off one by one, and both resets
leave such a state. -/
theorem everyRegisterReadsItsResetValueAfterReset : Obligations.EveryRegisterReadsItsResetValueAfterReset :=
  ⟨fun _ h off => windowRead_of_atReset h off, fun _ _ _ h => ctrlSrst_atReset h,
    fun _ _ _ _ hpending hactive hstep => resetPin_atReset hpending hactive hstep, resetFields_atReset State.reset, rfl⟩

/-! Reads at any offset. -/

/-- What a 32-bit read at an offset is answered with: the register's value, or an error response. -/
def windowAnswer (s : State) (off : Offset) : BusResponse :=
  match s.windowRead off with
  | some v => .data v
  | none => .error off

/-- The read of a register answers its value and changes nothing else. -/
theorem exec_decodeRead (r : Reg) (s : State) : exec (decodeRead r) s = s.readDone (s.regValue r) := by
  cases r
  case rxbuf i =>
    simp only [decodeRead, decodeRxbufRead]
    split
    · rfl
    · split <;> rfl
  all_goals rfl

theorem exec_decodeBus_read (s : State) (off : Offset) (d : Word) :
    exec (decodeBus (busWord false off d)) s = .next (s.respond (windowAnswer s off)) := by
  cases hreg : regAt off with
  | none => simp [decodeBus, windowAnswer, State.windowRead, hreg, exec, execBusError, badOffset, State.raiseBusError]
  | some r => simp [decodeBus, windowAnswer, State.windowRead, hreg, exec_decodeRead, State.readDone]

theorem place_withPending (hin : s.resetIn = false) (r : Raw) : (s.place r).withPending s.pending = s := by
  cases s
  simp_all [State.place, State.withPending]

theorem step_place_read (hin : s.resetIn = false) (off : Offset) (d : Word) :
    step (s.place (.bus (busWord false off d))) = .next (s.respond (windowAnswer s off)) := by
  rw [step_of_pending_decoded (s.place_resetIn _) (s.place_pending _) rfl, place_withPending hin, exec_decodeBus_read]

/-- No register reads the bus response. -/
theorem windowRead_respond (s : State) (b : BusResponse) (off : Offset) :
    (s.respond b).windowRead off = s.windowRead off := rfl

/-- Settles O53: the read's word decodes to its register's read or to the bus error, and the response it leaves is not
read by the same read made again. -/
theorem windowReadAnswersTheRegisterMap : Obligations.WindowReadAnswersTheRegisterMap := by
  intro s off d hin
  refine ⟨step_place_read hin off d, fun b => windowRead_respond s b off, fun t hstep => ?_⟩
  cases (step_place_read hin off d).symm.trans hstep
  have hagain : windowAnswer (s.respond (windowAnswer s off)) off = windowAnswer s off := by
    simp only [windowAnswer, windowRead_respond]
  rw [step_place_read (by simpa using hin), hagain]
  rfl

end Sys2Proof.Proofs
end

section
/-! `ERR` (10_state.md R26): which of its bits each effect of an instruction raises or clears. -/

namespace Sys2Proof.Proofs

open Sys2Proof.Config Sys2Proof.Machine

variable {s t u : State} {i : Instr} {P Q : Nat → Prop}

/-! Setting bits of `ERR`. -/

/-- From `s` to `t` every bit of `ERR` that was set stays set, and a bit `k` newly set has `P k`. -/
structure RaisesOnly (P : Nat → Prop) (s t : State) : Prop where
  sticky : ∀ k < 5, s.err.getLsbD k = true → t.err.getLsbD k = true
  cause : ∀ k < 5, s.err.getLsbD k = false → t.err.getLsbD k = true → P k

theorem RaisesOnly.of_err_eq (h : t.err = s.err) : RaisesOnly P s t :=
  ⟨fun k _ hs => by rwa [h], fun k _ hs ht => by simp [h, hs] at ht⟩

theorem RaisesOnly.trans (hst : RaisesOnly P s t) (htu : RaisesOnly P t u) : RaisesOnly P s u where
  sticky k hk hs := htu.sticky k hk (hst.sticky k hk hs)
  cause k hk hs hu := by
    cases ht : t.err.getLsbD k
    · exact htu.cause k hk ht hu
    · exact hst.cause k hk hs ht

theorem RaisesOnly.mono (h : RaisesOnly P s t) (hPQ : ∀ k, P k → Q k) : RaisesOnly Q s t :=
  ⟨h.sticky, fun k hk hs ht => hPQ k (h.cause k hk hs ht)⟩

theorem raisesOnly_setErr (s : State) {m : BitVec 5} (hm : ∀ k < 5, m.getLsbD k = true → P k) :
    RaisesOnly P s (s.setErr m) where
  sticky k _ hs := by simp [hs]
  cause k hk hs ht := hm k hk (by simpa [hs] using ht)

theorem bit_of_errTxOvf : ∀ k < 5, errTxOvf.getLsbD k = true → k = 0 := by decide
theorem bit_of_errTxBusy : ∀ k < 5, errTxBusy.getLsbD k = true → k = 1 := by decide
theorem bit_of_errTxOp : ∀ k < 5, errTxOp.getLsbD k = true → k = 2 := by decide
theorem bit_of_errRxOvf : ∀ k < 5, errRxOvf.getLsbD k = true → k = 3 := by decide
theorem bit_of_errRxFerr : ∀ k < 5, errRxFerr.getLsbD k = true → k = 4 := by decide

/-! The bits each shared operation can set. -/

theorem push_raisesOnly (s : State) (b : Byte) : RaisesOnly (fun k => k = 0 ∧ 256 ≤ s.txq.length) s (s.push b) := by
  obtain ⟨-, heq⟩ | ⟨hfull, heq⟩ := s.push_cases b <;> rw [heq]
  · exact .of_err_eq rfl
  · exact raisesOnly_setErr s fun k hk hbit => ⟨bit_of_errTxOvf k hk hbit, hfull⟩

theorem push_txq_length_le (s : State) (b : Byte) : (s.push b).txq.length ≤ s.txq.length + 1 := by
  obtain ⟨-, heq⟩ | ⟨-, heq⟩ := s.push_cases b <;> simp [heq]

/-- The pushes of a payload overflow only if queue and payload together exceed the queue's capacity. -/
theorem pushAll_raisesOnly (s : State) (bs : List Byte) :
    RaisesOnly (fun k => k = 0 ∧ 256 < s.txq.length + bs.length) s (s.pushAll bs) := by
  induction bs generalizing s with
  | nil => exact .of_err_eq rfl
  | cons b bs ih =>
    have hlen := push_txq_length_le s b
    refine .trans (t := s.push b) ((push_raisesOnly s b).mono fun k hk => ?_) ((ih (s.push b)).mono fun k hk => ?_)
    all_goals
      obtain ⟨hbit, hfull⟩ := hk
      rw [List.length_cons]
      exact ⟨hbit, by omega⟩

theorem unlessBusy_raisesOnly (hu : u.err = s.err) :
    RaisesOnly (fun k => k = 1 ∧ s.txState = .sending) s (s.unlessBusy u) := by
  obtain ⟨-, heq⟩ | ⟨hsending, heq⟩ := s.unlessBusy_cases u <;> rw [heq]
  · exact .of_err_eq hu
  · exact raisesOnly_setErr s fun k hk hbit => ⟨bit_of_errTxBusy k hk hbit, hsending⟩

theorem startEncode_raisesOnly (s : State) :
    RaisesOnly (fun k => k = 1 ∧ s.txState = .sending) s s.startEncode := unlessBusy_raisesOnly rfl

@[simp] theorem push_txState (s : State) (b : Byte) : (s.push b).txState = s.txState := by
  obtain ⟨-, heq⟩ | ⟨-, heq⟩ := s.push_cases b <;> rw [heq] <;> rfl

@[simp] theorem pushAll_txState (s : State) (bs : List Byte) : (s.pushAll bs).txState = s.txState := by
  induction bs generalizing s with
  | nil => rfl
  | cons b bs ih => exact (ih (s.push b)).trans (push_txState s b)

theorem store_raisesOnly (s : State) (b : Byte) :
    RaisesOnly (fun k => k = 3 ∧ (s.rxState = .ready ∨ s.rxbuf.length = 262)) s (s.store b) := by
  obtain ⟨hfull, heq⟩ | ⟨-, -, heq⟩ := s.store_cases b <;> rw [heq]
  · exact raisesOnly_setErr s fun k hk hbit => ⟨bit_of_errRxOvf k hk hbit, hfull⟩
  · exact .of_err_eq rfl

theorem lineGap_err (s : State) : s.lineGap.err = s.err := by
  obtain ⟨-, heq⟩ | ⟨-, heq⟩ := s.lineGap_cases <;> rw [heq]
  rfl

/-! Causes. -/

/-- What may set bit `k` of `ERR` (60_exceptions.md R240). -/
def ErrCause (s : State) (i : Instr) : Nat → Prop
  | 0 => (∃ d, i = .txDataWr d ∧ 256 ≤ s.txq.length) ∨
      ∃ c p, encode i = .frame (buildFrame c p) ∧ 256 < s.txq.length + p.length
  | 1 => s.txState = .sending ∧ AsksForFrame i
  | 2 => ∃ d, i = .goRsvd5 d ∨ i = .goRsvd67 d ∨ i = .goRsvd8F d
  | 3 => s.rxEn = true ∧ (∃ b, i = .rxeChar b ∨ i = .rxeCharFerr b) ∧ (s.rxState = .ready ∨ s.rxbuf.length = 262)
  | 4 => s.rxEn = true ∧ ∃ b, i = .rxeCharFerr b
  | _ => False

theorem startFrame_raisesOnly (hi : AsksForFrame i) (hu : u.err = s.err) :
    RaisesOnly (ErrCause s i) s (s.unlessBusy u) :=
  (unlessBusy_raisesOnly hu).mono fun _ ⟨hbit, hsending⟩ => hbit ▸ ⟨hsending, hi⟩

theorem sendCommand_raisesOnly (s : State) (cmd : Byte) (p : List Byte)
    (hi : encode i = .frame (buildFrame cmd p)) : RaisesOnly (ErrCause s i) s (s.sendCommand cmd p) := by
  have hcmd : RaisesOnly (ErrCause s i) s (s.setCmd cmd) := .of_err_eq rfl
  have hpush : RaisesOnly (ErrCause s i) (s.setCmd cmd) ((s.setCmd cmd).pushAll p) :=
    (pushAll_raisesOnly (s.setCmd cmd) p).mono fun _ ⟨hbit, hfull⟩ => hbit ▸ .inr ⟨cmd, p, hi, hfull⟩
  have hstart : RaisesOnly (ErrCause s i) ((s.setCmd cmd).pushAll p) (s.sendCommand cmd p) := by
    refine (startEncode_raisesOnly _).mono fun _ ⟨hbit, hsending⟩ => hbit ▸ ⟨?_, .inr ⟨_, hi⟩⟩
    rwa [pushAll_txState] at hsending
  exact hcmd.trans (hpush.trans hstart)

theorem lineIn_raisesOnly (s : State) (b : Byte) (ok : Bool)
    (hi : i = if ok then .rxeChar b else .rxeCharFerr b) : RaisesOnly (ErrCause s i) s (s.lineIn b ok) := by
  have hstore (hen : s.rxEn = true) : RaisesOnly (ErrCause s i) s (s.store b) := by
    refine (store_raisesOnly s b).mono fun _ ⟨hbit, hfull⟩ => hbit ▸ ⟨hen, ⟨b, ?_⟩, hfull⟩
    cases ok
    · exact .inr hi
    · exact .inl hi
  obtain ⟨-, heq⟩ | ⟨hen, -, heq⟩ | ⟨hen, rfl, heq⟩ := s.lineIn_cases b ok <;> rw [heq]
  · exact .of_err_eq rfl
  · exact hstore hen
  · exact (hstore hen).trans (raisesOnly_setErr _ fun k hk hbit => bit_of_errRxFerr k hk hbit ▸ ⟨hen, b, hi⟩)

/-- `ERR` is reset, or cleared by its write, or gains bits by their causes. -/
theorem Effect.err_cases (he : Effect s i u) :
    (∃ d, i = .ctrlSrst d ∧ u.err = 0#5) ∨ (∃ d, i = .errWr d ∧ u.err = (s.clearErr (dataErr d)).err) ∨
    RaisesOnly (ErrCause s i) s u := by
  cases he with
  | softReset d => exact .inl ⟨d, rfl, rfl⟩
  | clearErr d => exact .inr (.inl ⟨d, rfl, rfl⟩)
  | push d =>
    exact .inr (.inr ((push_raisesOnly s _).mono fun _ ⟨hbit, hfull⟩ => hbit ▸ .inl ⟨d, rfl, hfull⟩))
  | reserved hi => exact .inr (.inr (raisesOnly_setErr s fun k hk hbit => bit_of_errTxOp k hk hbit ▸ hi))
  | startEncode d => exact .inr (.inr (startFrame_raisesOnly (.inl ⟨d, .inl rfl⟩) rfl))
  | minimal hi cmd => exact .inr (.inr (startFrame_raisesOnly hi rfl))
  | command hi => exact .inr (.inr (sendCommand_raisesOnly s _ _ hi))
  | char b => exact .inr (.inr (lineIn_raisesOnly s b true rfl))
  | charFerr b => exact .inr (.inr (lineIn_raisesOnly s b false rfl))
  | gap x => exact .inr (.inr (.of_err_eq (lineGap_err s)))
  | keep | clearTxDone | flush | sendMore | sendLast | release => exact .inr (.inr (.of_err_eq rfl))

theorem clearErr_bit (s : State) (d : Word) {k : Nat} (hk : k < 5) :
    (s.clearErr (dataErr d)).err.getLsbD k = (s.err.getLsbD k && !d.getLsbD k) := by
  simp [State.clearErr, dataErr, hk]

/-- `ERR` after an instruction, whatever else it touched. -/
theorem exec_err_cases (h : exec i s = .next t) :
    (∃ d, i = .ctrlSrst d ∧ t.err = 0#5) ∨ (∃ d, i = .errWr d ∧ t.err = (s.clearErr (dataErr d)).err) ∨
    RaisesOnly (ErrCause s i) s t := by
  obtain ⟨u, heffect, hsame⟩ := exec_effect h
  have herr : t.err = u.err := hsame.err
  rw [herr]
  obtain hreset | hclear | hraise := heffect.err_cases
  · exact .inl hreset
  · exact .inr (.inl hclear)
  · exact .inr (.inr (hraise.trans (.of_err_eq herr)))

theorem err_bit_kept_or_cleared (h : exec i s = .next t) {k : Nat} (hk : k < 5) (hs : s.err.getLsbD k = true) :
    t.err.getLsbD k = true ∨ (∃ d, i = .errWr d ∧ d.getLsbD k = true) ∨ ∃ d, i = .ctrlSrst d := by
  obtain ⟨d, rfl, -⟩ | ⟨d, rfl, herr⟩ | hraise := exec_err_cases h
  · exact .inr (.inr ⟨d, rfl⟩)
  · cases hd : d.getLsbD k
    · exact .inl (by rw [herr, clearErr_bit s d hk, hs, hd]; rfl)
    · exact .inr (.inl ⟨d, rfl, hd⟩)
  · exact .inl (hraise.sticky k hk hs)

theorem err_bit_newly_set_cause (h : exec i s = .next t) {k : Nat} (hk : k < 5) (hs : s.err.getLsbD k = false)
    (ht : t.err.getLsbD k = true) : ErrCause s i k := by
  obtain ⟨d, -, herr⟩ | ⟨d, -, herr⟩ | hraise := exec_err_cases h
  · simp [herr] at ht
  · simp [herr, hs] at ht
  · exact hraise.cause k hk hs ht

/-- Settles O58: the effects clear a bit of `ERR` only by its write or the soft reset, and raise one only by its
cause. -/
theorem errorBitsAreStickyAndSetOnlyByTheirEvents : Obligations.ErrorBitsAreStickyAndSetOnlyByTheirEvents := by
  intro i s t h
  have hcause {k : Nat} (hk : k < 5) := err_bit_newly_set_cause (k := k) h hk
  exact ⟨fun k hk => err_bit_kept_or_cleared h hk, hcause (k := 1) (by omega), hcause (k := 2) (by omega),
    hcause (k := 3) (by omega), hcause (k := 4) (by omega), hcause (k := 0) (by omega)⟩

end Sys2Proof.Proofs
end

section
/-! `tx_done` (10_state.md R26): set by the last character, cleared by a frame's start, its write and the soft reset. -/

namespace Sys2Proof.Proofs

open Sys2Proof.Machine

variable {s t u : State} {i : Instr}

@[simp] theorem push_txDone (s : State) (b : Byte) : (s.push b).txDone = s.txDone := by
  obtain ⟨-, heq⟩ | ⟨-, heq⟩ := s.push_cases b <;> rw [heq] <;> rfl

@[simp] theorem pushAll_txDone (s : State) (bs : List Byte) : (s.pushAll bs).txDone = s.txDone := by
  induction bs generalizing s with
  | nil => rfl
  | cons b bs ih => exact (ih (s.push b)).trans (push_txDone s b)

@[simp] theorem store_txDone (s : State) (b : Byte) : (s.store b).txDone = s.txDone := by
  obtain ⟨-, heq⟩ | ⟨-, -, heq⟩ := s.store_cases b <;> rw [heq] <;> rfl

@[simp] theorem lineIn_txDone (s : State) (b : Byte) (ok : Bool) : (s.lineIn b ok).txDone = s.txDone := by
  obtain ⟨-, heq⟩ | ⟨-, -, heq⟩ | ⟨-, -, heq⟩ := s.lineIn_cases b ok <;> simp [heq]

@[simp] theorem lineGap_txDone (s : State) : s.lineGap.txDone = s.txDone := by
  obtain ⟨-, heq⟩ | ⟨-, heq⟩ := s.lineGap_cases <;> simp [heq]

/-- From idle to a frame being sent, with `tx_done` cleared (41_encoder.md R137). -/
def StartedFrame (s t : State) : Prop := s.txState = .idle ∧ t.txState = .sending ∧ t.txDone = false

/-- A frame asked for is started from idle, and while sending `tx_done` is left as it is. -/
theorem unlessBusy_startedFrame (hstate : u.txState = .sending) (hdone : u.txDone = false) :
    (s.unlessBusy u).txDone = s.txDone ∨ StartedFrame s (s.unlessBusy u) := by
  obtain ⟨hidle, heq⟩ | ⟨-, heq⟩ := s.unlessBusy_cases u <;> rw [heq]
  · exact .inr ⟨hidle, hstate, hdone⟩
  · exact .inl rfl

theorem startEncode_startedFrame (s : State) :
    s.startEncode.txDone = s.txDone ∨ StartedFrame s s.startEncode := unlessBusy_startedFrame rfl rfl

theorem sendCommand_startedFrame (s : State) (cmd : Byte) (p : List Byte) :
    (s.sendCommand cmd p).txDone = s.txDone ∨ StartedFrame s (s.sendCommand cmd p) := by
  have hstart := startEncode_startedFrame ((s.setCmd cmd).pushAll p)
  rwa [StartedFrame, pushAll_txDone, pushAll_txState] at hstart

/-- How `tx_done` may change in an instruction (10_state.md R26). -/
structure TxDoneRule (s : State) (i : Instr) (t : State) : Prop where
  set : s.txDone = false → t.txDone = true →
    (∃ x, i = .txeSend x) ∧ s.txState = .sending ∧ s.txPos + 1 = s.txFrame.length
  cleared : s.txDone = true → t.txDone = false →
    (s.txState = .idle ∧ t.txState = .sending ∧ AsksForFrame i) ∨ (∃ d, i = .statusWr d ∧ dataTxDone d = true) ∨
      ∃ d, i = .ctrlSrst d

theorem TxDoneRule.of_txDone_eq (h : t.txDone = s.txDone) : TxDoneRule s i t where
  set hs ht := by simp [h, hs] at ht
  cleared hs ht := by simp [h, hs] at ht

theorem TxDoneRule.of_startedFrame (hi : AsksForFrame i) (h : t.txDone = s.txDone ∨ StartedFrame s t) :
    TxDoneRule s i t := by
  obtain heq | ⟨hidle, hsending, hdone⟩ := h
  · exact .of_txDone_eq heq
  · exact ⟨fun _ ht => by simp [hdone] at ht, fun _ _ => .inl ⟨hidle, hsending, hi⟩⟩

theorem Effect.txDoneRule (he : Effect s i t) : TxDoneRule s i t := by
  cases he with
  | softReset d => exact ⟨fun _ ht => absurd ht Bool.false_ne_true, fun _ _ => .inr (.inr ⟨d, rfl⟩)⟩
  | clearTxDone d hbit => exact ⟨fun _ ht => absurd ht Bool.false_ne_true, fun _ _ => .inr (.inl ⟨d, rfl, hbit⟩)⟩
  | sendLast x b hsending hlast =>
    exact ⟨fun _ _ => ⟨⟨x, rfl⟩, hsending, hlast⟩, fun _ ht => absurd ht.symm Bool.false_ne_true⟩
  | startEncode d => exact .of_startedFrame (.inl ⟨d, .inl rfl⟩) (startEncode_startedFrame s)
  | minimal hi cmd => exact .of_startedFrame hi (unlessBusy_startedFrame rfl rfl)
  | command hi => exact .of_startedFrame (.inr ⟨_, hi⟩) (sendCommand_startedFrame s _ _)
  | push d => exact .of_txDone_eq (push_txDone s _)
  | char b => exact .of_txDone_eq (lineIn_txDone s b true)
  | charFerr b => exact .of_txDone_eq (lineIn_txDone s b false)
  | gap x => exact .of_txDone_eq (lineGap_txDone s)
  | keep | clearErr | flush | reserved | sendMore | release => exact .of_txDone_eq rfl

/-- Settles O59: of the effects only the last character sets `tx_done`, and only a frame's start, its write and the soft
reset clear it. -/
theorem txDoneChangesOnlyAsTheRuleSays : Obligations.TxDoneChangesOnlyAsTheRuleSays := by
  intro i s t h
  obtain ⟨u, heffect, hsame⟩ := exec_effect h
  rw [hsame.txDone, hsame.txState]
  exact ⟨heffect.txDoneRule.set, heffect.txDoneRule.cleared⟩

end Sys2Proof.Proofs
end

section
/-! The host's access and the window (20_memory.md R60 to R62): which offsets name a register, and what an access that
names none is answered with. -/

namespace Sys2Proof.Proofs

open Sys2Proof.Config Sys2Proof.Machine

/-! Which offsets name a register. -/

/-- The register map's offsets: 32-bit aligned, below the first hole or in the `RXBUF` window. -/
theorem regOffset_range {r : Reg} (h : regExists r = true) :
    (regOffset r).toNat % 4 = 0 ∧
      ((regOffset r).toNat < 0x048 ∨ (0x400 ≤ (regOffset r).toNat ∧ (regOffset r).toNat < 0x818)) := by
  cases r
  case rxbuf i =>
    have hi : i < 262 := by simpa [regExists] using h
    rw [rxbuf_offset_toNat i hi]
    omega
  all_goals decide

theorem regAt_ne_none_of_lt_048 : ∀ k < 18, regAt (BitVec.ofNat 12 (4 * k)) ≠ none := by decide

/-- The offsets without a register: the misaligned ones (20_memory.md R61) and the two holes of R62. -/
theorem regAt_eq_none_iff (off : Offset) :
    regAt off = none ↔
      (off.toNat % 4 ≠ 0 ∨ (0x048 ≤ off.toNat ∧ off.toNat < 0x400) ∨ 0x818 ≤ off.toNat) := by
  constructor
  · intro hnone
    by_contra hrange
    obtain hlow | hbuf : off.toNat < 0x048 ∨ 0x400 ≤ off.toNat := by omega
    · apply regAt_ne_none_of_lt_048 (off.toNat / 4) (by omega)
      have hoff : BitVec.ofNat 12 (4 * (off.toNat / 4)) = off := by bv_omega
      rw [hoff, hnone]
    · have hindex : (off.toNat - 0x400) / 4 < 262 := by omega
      have hoff : regOffset (.rxbuf ((off.toNat - 0x400) / 4)) = off := by
        apply BitVec.eq_of_toNat_eq
        rw [rxbuf_offset_toNat _ hindex]
        omega
      have hsome := regAt_rxbuf _ hindex
      rw [hoff, hnone] at hsome
      cases hsome
  · intro hrange
    cases hreg : regAt off with
    | none => rfl
    | some r =>
      obtain ⟨rfl, hexists⟩ := regAt_some hreg
      have := regOffset_range hexists
      omega

/-! A register's access is answered, and not with an error. -/

/-- The write of a register completes: it is the end of a write access, whatever it did before. -/
theorem exec_decodeWrite_completes (s : State) (r : Reg) (d : Word) :
    ∃ u : State, exec (decodeWrite d r) s = u.writeDone := by
  cases r
  case ctrl =>
    simp only [decodeWrite, decodeCtrlWrite]
    split <;> exact ⟨_, rfl⟩
  case txGo =>
    simp only [decodeWrite, decodeGo]
    repeat' split
    all_goals exact ⟨_, rfl⟩
  case rxCtrl =>
    simp only [decodeWrite, decodeRxCtrlWrite]
    split <;> exact ⟨_, rfl⟩
  case rxbuf i =>
    simp only [decodeWrite, decodeRxbufWrite]
    repeat' split
    all_goals exact ⟨_, rfl⟩
  all_goals exact ⟨_, rfl⟩

theorem decodeWrite_ne_busError (r : Reg) (d : Word) (a : BadAccess) : decodeWrite d r ≠ .busError a := by
  intro h
  obtain ⟨u, hdone⟩ := exec_decodeWrite_completes State.reset r d
  rw [h] at hdone
  have hresp := congrArg State.busResp (Host.Outcome.next.inj hdone)
  cases hresp

theorem decodeRead_ne_busError (r : Reg) (a : BadAccess) : decodeRead r ≠ .busError a := by
  intro h
  have hdata := exec_decodeRead r State.reset
  rw [h] at hdata
  have hresp := congrArg State.busResp (Host.Outcome.next.inj hdata)
  cases hresp

theorem decode_bus_eq_busError_iff (t : BitVec 45) :
    decode (.bus t) = .instr (.busError (.word t)) ↔ regAt (busOff t) = none := by
  cases hreg : regAt (busOff t) with
  | none => simp [decode, decodeBus, hreg]
  | some r => cases hw : busWrite t <;>
      simp [decode, decodeBus, hreg, hw, decodeWrite_ne_busError, decodeRead_ne_busError]

theorem exec_busError (s : State) (a : BadAccess) :
    exec (.busError a) s = .next { s with busResp := .error (badOffset a) } := rfl

/-- Settles O49: a transaction word is a bus error where its offset names no register, and a bus error's one effect is
the response with the access's offset. -/
theorem inadmissibleAccessIsABusError : Obligations.InadmissibleAccessIsABusError := by
  refine ⟨fun w off d => ?_, fun _ _ _ => rfl, fun s w off d => ?_, fun s k w off => exec_busError s (.width k w off)⟩
  · rw [decode_bus_eq_busError_iff, busOff_busWord, regAt_eq_none_iff]
  · rw [exec_busError, badOffset, busOff_busWord]

/-! The host's access. -/

theorem base_mod_windowSize : base % windowSize = 0 := Nat.mul_mod_right windowSize baseIndex

/-- An access inside the window, by its width: the offset is the address less `BASE`. -/
theorem hostAccess_base_add (w : Bool) (off : Offset) (n : Nat) (d : Word) :
    hostAccess w (base + off.toNat) n d =
      if n = 4 then some (.bus (busWord w off (if w then d else 0#32)))
      else if n = 1 then some (.odd .byte w off)
      else if n = 2 then some (.odd .half w off)
      else some (.odd .wide w off) := by
  have hinside : base ≤ base + off.toNat ∧ base + off.toNat < base + windowSize :=
    ⟨Nat.le_add_right _ _, Nat.add_lt_add_left off.isLt base⟩
  have hoff : BitVec.ofNat 12 (base + off.toNat - base) = off := by
    rw [Nat.add_sub_cancel_left, BitVec.ofNat_toNat, BitVec.setWidth_eq]
  rw [hostAccess, if_pos hinside, hoff]

theorem hostAccess_outside {a : Nat} (h : a < base ∨ base + windowSize ≤ a) (w : Bool) (n : Nat) (d : Word) :
    hostAccess w a n d = none := by
  have houtside : ¬ (base ≤ a ∧ a < base + windowSize) := by omega
  rw [hostAccess, if_neg houtside]

/-- Settles O50: inside the window the offset comes back out of the address and the width selects the input. -/
theorem hostAccessReachesItsOffset : Obligations.HostAccessReachesItsOffset := by
  refine ⟨base_mod_windowSize, fun w off d => ?_, fun w a n d h => hostAccess_outside h w n d⟩
  simp only [hostAccess_base_add]
  refine ⟨rfl, rfl, rfl, fun n h4 h1 h2 => ?_⟩
  rw [if_neg h4, if_neg h1, if_neg h2]

end Sys2Proof.Proofs
end

section
/-! Reserved bits and read-only registers (20_memory.md R63): a register's value lies inside its readable fields, and a
write sees only its writable ones. -/

namespace Sys2Proof.Proofs

open Sys2Proof.Config Sys2Proof.Machine

/-! Read-only registers. -/

/-- Settles O51: the meaning of each of the ten is the end of a write access and nothing else. -/
theorem readOnlyRegistersIgnoreWrites : Obligations.ReadOnlyRegistersIgnoreWrites := fun s _ _ =>
  have hdone := s.writeDone_eq
  ⟨hdone, hdone, hdone, hdone, hdone, hdone, hdone, hdone, hdone, hdone⟩

/-- Only the read-only registers have no writable field, and their writes are those of O51. -/
theorem exec_decodeWrite_of_writeMask_zero {r : Reg} (h : writeMask r = 0#32) (s : State) (d : Word) :
    exec (decodeWrite d r) s = s.writeDone := by
  cases r
  case rxbuf i =>
    simp only [decodeWrite, decodeRxbufWrite]
    repeat' split
    all_goals rfl
  case txCount | txLastCrc | txLastLen | rxCount | rxCrcCalc | rxCrcRecv | txPos => rfl
  all_goals exact absurd h (by decide)

/-! Readable fields. -/

/-- Every bit of `v` outside `m` is 0. -/
def Inside (v m : Word) : Prop := v &&& ~~~m = 0#32

theorem inside_iff_bits {v m : Word} : Inside v m ↔ ∀ k < 32, v.getLsbD k = true → m.getLsbD k = true := by
  simp only [Inside, BitVec.eq_of_getLsbD_eq_iff, BitVec.getLsbD_and, BitVec.getLsbD_not, BitVec.getLsbD_zero]
  refine forall₂_congr fun k hk => ?_
  cases v.getLsbD k <;> simp [hk]

theorem inside_zero (m : Word) : Inside 0#32 m := by simp [Inside]

theorem Inside.or {v w m : Word} (hv : Inside v m) (hw : Inside w m) : Inside (v ||| w) m := by
  rw [inside_iff_bits] at *
  intro k hk hbit
  rw [BitVec.getLsbD_or, Bool.or_eq_true] at hbit
  exact hbit.elim (hv k hk) (hw k hk)

/-- A field of `n` bits from position `p` on lies inside a mask that has all its positions. -/
theorem inside_field {n : Nat} (x : BitVec n) (p : Nat) {m : Word} (hm : ∀ k < n, m.getLsbD (p + k) = true) :
    Inside (x.zeroExtend 32 <<< p) m := by
  rw [inside_iff_bits]
  intro k _ hbit
  simp only [BitVec.truncate_eq_setWidth, BitVec.getLsbD_shiftLeft, BitVec.getLsbD_setWidth, Bool.and_eq_true,
    Bool.not_eq_true', decide_eq_true_eq, decide_eq_false_iff_not, not_lt] at hbit
  obtain ⟨⟨_, hpk⟩, _, hx⟩ := hbit
  have := hm (k - p) (BitVec.lt_of_getLsbD hx)
  rwa [Nat.add_sub_cancel' hpk] at this

/-- A flag is a field of one bit. -/
theorem inside_bitAt (b : Bool) {n : Nat} {m : Word} (hm : m.getLsbD n = true) : Inside (bitAt b n) m :=
  inside_field (BitVec.ofBool b) n (by simpa using hm)

theorem inside_lowField {n : Nat} (x : BitVec n) {m : Word} (hm : ∀ k < n, m.getLsbD k = true) :
    Inside (x.zeroExtend 32) m := by
  simpa using inside_field x 0 (by simpa using hm)

theorem regValue_inside_readMask (s : State) (r : Reg) : Inside (s.regValue r) (readMask r) := by
  cases r
  case ctrl => exact (inside_bitAt _ rfl).or (inside_bitAt _ rfl)
  case status =>
    iterate 9 refine Inside.or ?_ (inside_bitAt _ rfl)
    exact inside_bitAt _ rfl
  case txLastLen => exact (inside_lowField _ (by decide)).or (inside_field _ 16 (by decide))
  case crcData | txData | txGo | rxCtrl => exact inside_zero _
  case rxbuf i => exact inside_lowField (m := 0x000000FF#32) _ (by decide)
  case ie => exact inside_lowField s.ie (by decide)
  case err => exact inside_lowField s.err (by decide)
  case crcAcc => exact inside_lowField s.crcAcc (by decide)
  case txCmd => exact inside_lowField s.txCmd (by decide)
  case txLastCrc => exact inside_lowField s.txLastCrc (by decide)
  case rxCrcCalc => exact inside_lowField s.rxCrcCalc (by decide)
  case rxCrcRecv => exact inside_lowField s.rxCrcRecv (by decide)
  case rxGap => exact inside_lowField s.rxGap (by decide)
  case txCount => exact inside_lowField (BitVec.ofNat 16 s.txq.length) (by decide)
  case rxCount => exact inside_lowField (BitVec.ofNat 16 s.rxbuf.length) (by decide)
  case txPos => exact inside_lowField (BitVec.ofNat 16 s.txPos) (by decide)

/-! Writable fields. -/

/-- A low field of the data is not changed by clearing bits outside a mask that has all its positions. -/
theorem lowField_and (d : Word) (n : Nat) {m : Word} (hm : ∀ k < n, m.getLsbD k = true) :
    (d &&& m).extractLsb' 0 n = d.extractLsb' 0 n := by
  ext k hk
  simp [hm k hk]

theorem bit_and (d : Word) {n : Nat} {m : Word} (hm : m.getLsbD n = true) : (d &&& m).getLsbD n = d.getLsbD n := by
  rw [BitVec.getLsbD_and, hm, Bool.and_true]

theorem exec_decodeGo_congr {d e : Word} (h : goOp d = goOp e) (s : State) :
    exec (decodeGo d) s = exec (decodeGo e) s := by
  unfold decodeGo
  rw [h]
  repeat' split
  all_goals rfl

/-- The meaning of a register's write sees only the writable fields of its data. -/
theorem exec_decodeWrite_and_writeMask (s : State) (r : Reg) (d : Word) :
    exec (decodeWrite (d &&& writeMask r) r) s = exec (decodeWrite d r) s := by
  by_cases hreadOnly : writeMask r = 0#32
  · rw [exec_decodeWrite_of_writeMask_zero hreadOnly, exec_decodeWrite_of_writeMask_zero hreadOnly]
  have hbyte : dataByte (d &&& 0x000000FF#32) = dataByte d := lowField_and d 8 (by decide)
  cases r
  case ctrl =>
    have hsrst : srstBit (d &&& 0x80000003#32) = srstBit d := bit_and d (by decide)
    have hen : dataRxEn (d &&& 0x80000003#32) = dataRxEn d := bit_and d (by decide)
    have hsel : dataBaudSel (d &&& 0x80000003#32) = dataBaudSel d := bit_and d (by decide)
    simp only [decodeWrite, decodeCtrlWrite, writeMask, hsrst]
    split
    · rfl
    · simp only [exec, execCtrlWr, hen, hsel]
  case status =>
    have hdone : dataTxDone (d &&& 0x00000002#32) = dataTxDone d := bit_and d (by decide)
    simp only [decodeWrite, writeMask, exec, execStatusWr, hdone]
  case ie =>
    have hie : dataIe (d &&& 0x00000007#32) = dataIe d := lowField_and d 3 (by decide)
    simp only [decodeWrite, writeMask, exec, execIeWr, hie]
  case err =>
    have herr : dataErr (d &&& 0x0000001F#32) = dataErr d := lowField_and d 5 (by decide)
    simp only [decodeWrite, writeMask, exec, execErrWr, herr]
  case crcAcc =>
    have hcrc : dataHalf (d &&& 0x0000FFFF#32) = dataHalf d := lowField_and d 16 (by decide)
    simp only [decodeWrite, writeMask, exec, execCrcAccWr, hcrc]
  case crcData => simp only [decodeWrite, writeMask, exec, execCrcDataWr, hbyte]
  case txCmd => simp only [decodeWrite, writeMask, exec, execTxCmdWr, hbyte]
  case txData => simp only [decodeWrite, writeMask, exec, execTxDataWr, hbyte]
  case rxGap => simp only [decodeWrite, writeMask, exec, execRxGapWr, hbyte]
  case txGo =>
    have hop : goOp (d &&& 0x0000000F#32) = goOp d := lowField_and d 4 (by decide)
    exact exec_decodeGo_congr hop s
  case rxCtrl =>
    have hrelease : releaseBit (d &&& 0x00000001#32) = releaseBit d := bit_and d (by decide)
    simp only [decodeWrite, decodeRxCtrlWrite, writeMask, hrelease]
    split <;> rfl
  all_goals exact absurd rfl hreadOnly

/-! Register accesses at the block. -/

variable {s : State} {r : Reg}

theorem step_place_readWord (hin : s.resetIn = false) (hexists : regExists r = true) :
    step (s.place (readWord r)) = s.readDone (s.regValue r) := by
  rw [step_of_pending_decoded (s.place_resetIn _) (s.place_pending _) (decode_readWord r hexists),
    place_withPending hin, exec_decodeRead]

theorem step_place_writeWord (hin : s.resetIn = false) (hexists : regExists r = true) (d : Word) :
    step (s.place (writeWord r d)) = exec (decodeWrite d r) s := by
  rw [step_of_pending_decoded (s.place_resetIn _) (s.place_pending _) (decode_writeWord r d hexists),
    place_withPending hin]

/-- Settles O52: every value read lies inside its mask, every write's meaning sees only the fields of its mask, and
where the mask is empty that meaning is the write's end alone. -/
theorem reservedBitsReadZeroAndIgnoreWrites : Obligations.ReservedBitsReadZeroAndIgnoreWrites := by
  refine ⟨regValue_inside_readMask, fun s r hin hexists => ?_, fun s r d hin hexists => ?_⟩
  · rw [step_place_readWord hin hexists, State.readDone_eq]
  · obtain ⟨u, hwrite⟩ := exec_decodeWrite_completes s r d
    refine ⟨u.respond .done, ?_, ?_, fun hmask => ?_⟩
    · rw [step_place_writeWord hin hexists, hwrite, State.writeDone]
    · rw [step_place_writeWord hin hexists, exec_decodeWrite_and_writeMask, hwrite, State.writeDone]
    · rw [exec_decodeWrite_of_writeMask_zero hmask] at hwrite
      exact (Host.Outcome.next.inj hwrite).symm

end Sys2Proof.Proofs
end

section
/-! Decoder and encoder (30_encoding.md R81, R82, R86): `Decodes` lists what decodes to what, one case per input format,
and the round trips and the decoder's well-formedness are read off its cases. -/

namespace Sys2Proof.Proofs

open Sys2Proof.Config Sys2Proof.Machine

/-- The register accesses, bad accesses, events and command frames, each with the instruction it decodes to;
`decode_eq_instr_iff` ties it to `decode`. -/
inductive Decodes : Raw → Instr → Prop
  | read (r : Reg) (ignored : Word) (hr : regExists r = true) :
      Decodes (.bus (busWord false (regOffset r) ignored)) (decodeRead r)
  | write (r : Reg) (d : Word) (hr : regExists r = true) :
      Decodes (.bus (busWord true (regOffset r) d)) (decodeWrite d r)
  | badWord (t : BitVec 45) (hnone : regAt (busOff t) = none) : Decodes (.bus t) (.busError (.word t))
  | badWidth (w : OddWidth) (write : Bool) (off : Offset) :
      Decodes (.odd w write off) (.busError (.width w write off))
  | event (e : BitVec 10) : Decodes (.event e) (decodeEvent e)
  | command {c : Byte} {p : List Byte} {i : Instr} (hfits : p.length ≤ 256) (hc : commandOf c p = some i) :
      Decodes (.frame (buildFrame c p)) i

variable {raw : Raw} {i : Instr}

theorem decodes_bus (t : BitVec 45) : Decodes (.bus t) (decodeBus t) := by
  unfold decodeBus
  cases hreg : regAt (busOff t) with
  | none => exact .badWord t hreg
  | some r =>
    obtain ⟨hoff, hr⟩ := regAt_some hreg
    have hfields := busWord_fields t
    rw [← hoff] at hfields
    cases hw : busWrite t <;> rw [hw] at hfields
    · simpa [hfields] using Decodes.read r (busData t) hr
    · simpa [hfields] using Decodes.write r (busData t) hr

theorem decodes_of_decode (h : decode raw = .instr i) : Decodes raw i := by
  cases raw with
  | bus t => cases h; exact decodes_bus t
  | odd w write off => cases h; exact .badWidth w write off
  | event e => cases h; exact .event e
  | frame bytes =>
    obtain ⟨c, p, rfl, hfits, hc⟩ := decodeFrame_cases h
    exact .command hfits hc

theorem Decodes.decode_eq (h : Decodes raw i) : decode raw = .instr i := by
  cases h with
  | read r ignored hr => simp [decode, decodeBus, regAt_regOffset r hr]
  | write r d hr => exact decode_writeWord r d hr
  | badWord t hnone => simp [decode, decodeBus, hnone]
  | badWidth | event => rfl
  | command hfits hc => exact decodeFrame_build _ _ _ hfits hc

theorem decode_eq_instr_iff : decode raw = .instr i ↔ Decodes raw i := ⟨decodes_of_decode, Decodes.decode_eq⟩

/-! Well-formedness of what is decoded. -/

theorem regExists_rxbuf {k : Nat} : regExists (.rxbuf k) = true ↔ k < 262 := by simp [regExists, rxbufSize]

theorem decodeRead_wf {r : Reg} (hr : regExists r = true) : (decodeRead r).wf = true := by
  cases r
  case rxbuf i =>
    have hi := regExists_rxbuf.mp hr
    simp only [decodeRead, decodeRxbufRead]
    repeat' split
    all_goals
      simp only [Instr.wf, rxbufSize, Bool.and_eq_true, decide_eq_true_eq]
      omega
  all_goals rfl

/-- The operations that the chain of `decodeGo` leaves over are 8 to 15. -/
theorem goOp_bit3_iff (op : BitVec 4) :
    op.getLsbD 3 = true ↔
      op ≠ 0x0#4 ∧ op ≠ 0x1#4 ∧ op ≠ 0x2#4 ∧ op ≠ 0x3#4 ∧ op ≠ 0x4#4 ∧ op ≠ 0x5#4 ∧ op ≠ 0x6#4 ∧ op ≠ 0x7#4 := by
  revert op
  decide

theorem decodeGo_wf (d : Word) : (decodeGo d).wf = true := by
  unfold decodeGo
  repeat' split
  case isFalse h0 h1 h2 h3 h4 h5 h6 h7 => exact (goOp_bit3_iff _).mpr ⟨h0, h1, h2, h3, h4, h5, h6, h7⟩
  all_goals simp [Instr.wf, *]

theorem decodeWrite_wf {r : Reg} (d : Word) (hr : regExists r = true) : (decodeWrite d r).wf = true := by
  cases r
  case ctrl =>
    simp only [decodeWrite, decodeCtrlWrite]
    split <;> simp [Instr.wf, *]
  case txGo => exact decodeGo_wf d
  case rxCtrl =>
    simp only [decodeWrite, decodeRxCtrlWrite]
    split <;> simp [Instr.wf, *]
  case rxbuf i =>
    have hi := regExists_rxbuf.mp hr
    simp only [decodeWrite, decodeRxbufWrite]
    repeat' split
    all_goals
      simp only [Instr.wf, rxbufSize, Bool.and_eq_true, decide_eq_true_eq]
      omega
  all_goals rfl

theorem decodeEvent_wf (e : BitVec 10) : (decodeEvent e).wf = true := by
  unfold decodeEvent
  repeat' split
  all_goals rfl

theorem commandOf_wf {c : Byte} {p : List Byte} (hfits : p.length ≤ 256) (hc : commandOf c p = some i) :
    i.wf = true := by
  have hp : payloadFits p = true := decide_eq_true hfits
  unfold commandOf at hc
  repeat' split at hc
  all_goals cases hc
  all_goals exact hp

theorem Decodes.wf (h : Decodes raw i) : i.wf = true := by
  cases h with
  | read r ignored hr => exact decodeRead_wf hr
  | write r d hr => exact decodeWrite_wf d hr
  | badWord t hnone => simp [Instr.wf, hnone]
  | badWidth => rfl
  | event e => exact decodeEvent_wf e
  | command hfits hc => exact commandOf_wf hfits hc

/-- Settles O3: each format's instructions are well-formed, by the cases of `Decodes`. -/
theorem decodedInstructionIsWellFormed : Obligations.DecodedInstructionIsWellFormed :=
  fun _ _ h => (decodes_of_decode h).wf

/-! Encoding what was decoded. -/

theorem encode_decodeEvent (e : BitVec 10) : encode (decodeEvent e) = .event e := by
  have hfields := eventWord_fields e
  have hrest : ∀ k : BitVec 2, k ≠ 0#2 → k ≠ 1#2 → k ≠ 2#2 → k = 3#2 := by decide
  unfold decodeEvent
  repeat' split
  case isFalse h0 h1 h2 => rw [encode, ← hrest _ h0 h1 h2, hfields]
  all_goals rename_i hkind; rw [encode, ← hkind, hfields]

/-- Only a read's `DATA`, which the decoder ignores, is not encoded again. -/
theorem Decodes.encode_eq (h : Decodes raw i) (hcanonical : raw.canonical = true) : encode i = raw := by
  cases h with
  | read r ignored hr =>
    have hzero : ignored = 0#32 := by simpa [Raw.canonical, regAt_regOffset r hr] using hcanonical
    rw [encode_decodeRead, hzero, readWord]
  | write r d hr => exact encode_decodeWrite r d
  | badWord | badWidth => rfl
  | event e => exact encode_decodeEvent e
  | command hfits hc => exact encode_commandOf hc

/-- Settles O2: an input is its fields, and each format's encoder writes them back, by the cases of `Decodes`. -/
theorem encodeOfDecodeIsTheInput : Obligations.EncodeOfDecodeIsTheInput :=
  fun _ _ hcanonical h => (decodes_of_decode h).encode_eq hcanonical

/-! Decoding what was encoded. -/

theorem decodes_readWord {r : Reg} (hr : regExists r = true) (hi : decodeRead r = i) : Decodes (readWord r) i :=
  hi ▸ .read r 0#32 hr

theorem decodes_writeWord {r : Reg} {d : Word} (hr : regExists r = true) (hi : decodeWrite d r = i) :
    Decodes (writeWord r d) i :=
  hi ▸ .write r d hr

theorem decodes_eventWord (k : BitVec 2) (b : Byte) (hi : decodeEvent (eventWord k b) = i) :
    Decodes (.event (eventWord k b)) i :=
  hi ▸ .event _

theorem decodeGo_of_bit3 {d : Word} (h : (goOp d).getLsbD 3 = true) : decodeGo d = .goRsvd8F d := by
  simp [decodeGo, (goOp_bit3_iff _).mp h]

/-- A well-formed instruction is the one its own encoding decodes to: its row's operands select its row again. -/
theorem decodes_encode (hwf : i.wf = true) : Decodes (encode i) i := by
  cases i
  case ctrlWr d =>
    have hbit : srstBit d = false := by simpa [Instr.wf] using hwf
    exact decodes_writeWord rfl (by simp [decodeWrite, decodeCtrlWrite, hbit])
  case ctrlSrst d => exact decodes_writeWord rfl (if_pos hwf)
  case rxCtrlNop d =>
    have hbit : releaseBit d = false := by simpa [Instr.wf] using hwf
    exact decodes_writeWord rfl (by simp [decodeWrite, decodeRxCtrlWrite, hbit])
  case rxRelease d => exact decodes_writeWord rfl (if_pos hwf)
  case goNop d | goEncode d | goAck d | goNak d | goFlush d | goRsvd5 d =>
    have hop := eq_of_beq hwf
    exact decodes_writeWord rfl (by simp [decodeWrite, decodeGo, hop])
  case goRsvd67 d =>
    refine decodes_writeWord rfl ?_
    obtain hop | hop : goOp d = 0x6#4 ∨ goOp d = 0x7#4 := by simpa [Instr.wf] using hwf
    all_goals simp [decodeWrite, decodeGo, hop]
  case goRsvd8F d => exact decodes_writeWord rfl (decodeGo_of_bit3 hwf)
  case rxbufRd0 k | rxbufRd1 k | rxbufRd2 k =>
    simp only [Instr.wf, rxbufSize, Bool.and_eq_true, decide_eq_true_eq] at hwf
    refine decodes_readWord (regExists_rxbuf.mpr (by omega)) ?_
    grind [decodeRead, decodeRxbufRead]
  case rxbufWr0 k d | rxbufWr1 k d | rxbufWr2 k d =>
    simp only [Instr.wf, rxbufSize, Bool.and_eq_true, decide_eq_true_eq] at hwf
    refine decodes_writeWord (regExists_rxbuf.mpr (by omega)) ?_
    grind [decodeWrite, decodeRxbufWrite]
  case busError a =>
    cases a with
    | word t => exact .badWord t (by simpa [Instr.wf] using hwf)
    | width w write off => exact .badWidth w write off
  case txeSend b | rxeChar b | rxeCharFerr b | rxeGap b => exact decodes_eventWord _ b (by simp [decodeEvent])
  case cmdAck p | cmdNak p | cmdPoll p | cmdReset p | cmdGetStatus p | cmdSetSecurity p | cmdEnableBillTypes p |
      cmdStack p | cmdReturn p | cmdIdentification p | cmdHold p =>
    exact .command (of_decide_eq_true hwf) rfl
  case statusWr | ieWr | errWr | crcAccWr | crcDataWr | txCmdWr | txDataWr | rxGapWr | txCountWr | txLastCrcWr |
      txLastLenWr | rxCountWr | rxCrcCalcWr | rxCrcRecvWr | txPosWr => exact decodes_writeWord rfl rfl
  -- The reads of the registers outside `RXBUF`.
  all_goals exact decodes_readWord rfl rfl

/-- Settles O1: the encoding of every row's instruction stands in `Decodes` with that instruction. -/
theorem decodeOfEncodeIsTheInstruction : Obligations.DecodeOfEncodeIsTheInstruction :=
  fun _ hwf => (decodes_encode hwf).decode_eq

/-! Words written out. -/

/-- Settles O5: the fields of a transaction word and of an event word are read off its digits. -/
theorem writtenOutWordsDecode : Obligations.WrittenOutWordsDecode := by
  refine ⟨?srst, ?txCmd, ?encode, ?status, ?rxbuf3, ?crcData, ?reserved, ?release, ?rxbuf261, ?unmapped, ?send, ?char,
    ?charFerr, ?gap⟩
  case srst => exact decode_writeWord .ctrl 0x80000000#32 rfl
  case txCmd => exact decode_writeWord .txCmd 0x33#32 rfl
  case encode => exact decode_writeWord .txGo 0x1#32 rfl
  case status => exact decode_readWord .status rfl
  case rxbuf3 => exact decode_readWord (.rxbuf 3) rfl
  case crcData => exact decode_writeWord .crcData 0x9#32 rfl
  case reserved => exact decode_writeWord .txGo 0x9#32 rfl
  case release => exact decode_writeWord .rxCtrl 0x1#32 rfl
  case rxbuf261 => exact decode_readWord (.rxbuf 261) rfl
  case unmapped => exact (decode_bus_eq_busError_iff _).mpr rfl
  all_goals rfl

end Sys2Proof.Proofs
end

section
/-! The opcode table's rows for transaction words (spec/opcode_table.json, 30_encoding.md R81, R94): a word whose offset
names a register has the bits of the row it decodes to, no two rows share a word, and a row's words all have an offset
that names a register. -/

namespace Sys2Proof.Proofs

open Sys2Proof.Config Sys2Proof.Machine

variable {t : BitVec 45} {row row' : Row}

theorem holds_iff {n : Nat} : row.holds n = true ↔ n &&& row.mask = row.value := beq_iff_eq

/-! The row of what a word decodes to. -/

open Sys2Proof.Laws Sys2Proof.Laws.EncodesInItsRow in
theorem encodesInItsRow (i : Instr) : EncodesInItsRow.Statement i := by
  cases i
  exacts [ctrlRd, ctrlWr _, ctrlSrst _, statusRd, statusWr _, ieRd, ieWr _, errRd, errWr _, crcAccRd, crcAccWr _,
    crcDataRd, crcDataWr _, txCmdRd, txCmdWr _, txDataRd, txDataWr _, txGoRd, goNop _, goEncode _, goAck _, goNak _,
    goFlush _, goRsvd5 _, goRsvd67 _, goRsvd8F _, txCountRd, txLastCrcRd, txLastLenRd, rxCtrlRd, rxCtrlNop _,
    rxRelease _, rxCountRd, rxCrcCalcRd, rxCrcRecvRd, rxGapRd, rxGapWr _, txPosRd, txCountWr _, txLastCrcWr _,
    txLastLenWr _, rxCountWr _, rxCrcCalcWr _, rxCrcRecvWr _, txPosWr _, rxbufRd0 _, rxbufWr0 _ _, rxbufRd1 _,
    rxbufWr1 _ _, rxbufRd2 _, rxbufWr2 _ _, busError _, txeSend _, rxeChar _, rxeCharFerr _, rxeGap _, cmdAck _,
    cmdNak _, cmdPoll _, cmdReset _, cmdGetStatus _, cmdSetSecurity _, cmdEnableBillTypes _, cmdStack _, cmdReturn _,
    cmdIdentification _, cmdHold _]

/-- The family EncodesInItsRow for an instruction that has a row of the `bus` format. -/
theorem holds_of_encode_bus {i : Instr} (hwf : i.wf = true) (hrow : tableRow i = some row) (henc : encode i = .bus t) :
    row.holds t.toNat = true := by
  have h := encodesInItsRow i hwf
  rw [hrow, henc] at h
  obtain ⟨n, hn, hholds⟩ := h
  cases hn
  exact hholds

/-- A register's read is a row of the table whose mask leaves `DATA` free. -/
theorem tableRow_decodeRead (r : Reg) :
    ∃ row ∈ busRows, tableRow (decodeRead r) = some row ∧ 2 ^ 32 ∣ row.mask := by
  cases r
  case rxbuf k =>
    simp only [decodeRead, decodeRxbufRead]
    repeat' split
    all_goals exact ⟨_, by decide, rfl, by decide⟩
  all_goals exact ⟨_, by decide, rfl, by decide⟩

theorem tableRow_decodeWrite (r : Reg) (d : Word) : ∃ row ∈ busRows, tableRow (decodeWrite d r) = some row := by
  cases r
  case ctrl =>
    simp only [decodeWrite, decodeCtrlWrite]
    split <;> exact ⟨_, by decide, rfl⟩
  case txGo =>
    simp only [decodeWrite, decodeGo]
    repeat' split
    all_goals exact ⟨_, by decide, rfl⟩
  case rxCtrl =>
    simp only [decodeWrite, decodeRxCtrlWrite]
    split <;> exact ⟨_, by decide, rfl⟩
  case rxbuf k =>
    simp only [decodeWrite, decodeRxbufWrite]
    repeat' split
    all_goals exact ⟨_, by decide, rfl⟩
  all_goals exact ⟨_, by decide, rfl⟩

theorem holds_of_data_free (hmask : 2 ^ 32 ∣ row.mask) {w : Bool} {off : Offset} {d : Word} (d' : Word)
    (h : row.holds (busWord w off d).toNat = true) : row.holds (busWord w off d').toNat = true := by
  obtain ⟨a, ha⟩ := hmask
  have hand (d : Word) : (busWord w off d).toNat &&& row.mask = ((w.toNat * 2 ^ 12 + off.toNat) &&& a) * 2 ^ 32 := by
    rw [ha, Nat.mul_comm]
    simpa only [Nat.and_zero, Nat.add_zero] using busWord_and w off d a 0 (by decide)
  rw [holds_iff, hand] at h ⊢
  exact h

/-- A word whose offset names a register has the bits of the row it decodes to. -/
theorem decodeBus_row (hreg : regAt (busOff t) ≠ none) :
    ∃ row ∈ busRows, tableRow (decodeBus t) = some row ∧ row.holds t.toNat = true := by
  have hdecodes := decodes_bus t
  generalize decodeBus t = i at hdecodes ⊢
  cases hdecodes with
  | read r ignored hr =>
    obtain ⟨row, hmem, hrow, hfree⟩ := tableRow_decodeRead r
    have hzero := holds_of_encode_bus (decodeRead_wf hr) hrow (encode_decodeRead r)
    exact ⟨row, hmem, hrow, holds_of_data_free hfree ignored hzero⟩
  | write r d hr =>
    obtain ⟨row, hmem, hrow⟩ := tableRow_decodeWrite r d
    exact ⟨row, hmem, hrow, holds_of_encode_bus (decodeWrite_wf d hr) hrow (encode_decodeWrite r d)⟩
  | badWord t hnone => exact absurd hnone hreg

/-! No two rows share a word. -/

/-- Two different rows ask for different values of a bit that both masks select. -/
theorem busRows_disagree :
    ∀ a ∈ busRows, ∀ b ∈ busRows, a.value &&& b.mask = b.value &&& a.mask → a = b := by decide

theorem row_eq_of_holds {n : Nat} (hmem : row ∈ busRows) (hmem' : row' ∈ busRows) (h : row.holds n = true)
    (h' : row'.holds n = true) : row = row' := by
  refine busRows_disagree row hmem row' hmem' ?_
  rw [← holds_iff.mp h, ← holds_iff.mp h', Nat.and_right_comm]

/-! The words of a row. -/

/-- A word lies between its masked bits alone and its masked bits with every other bit set. -/
theorem toNat_range_of_and (t m : BitVec 45) :
    (t &&& m).toNat ≤ t.toNat ∧ t.toNat + m.toNat < (t &&& m).toNat + 2 ^ 45 := by
  have hdisjoint : (t &&& m) &&& (t &&& ~~~m) = 0#45 := by ext k hk; cases h : m[k] <;> simp [h]
  have hsplit : (t &&& m) + (t &&& ~~~m) = t := by
    rw [BitVec.add_eq_or_of_and_eq_zero _ _ hdisjoint, ← BitVec.and_or_distrib_left, BitVec.or_not_self,
      BitVec.and_allOnes]
  have hsum := BitVec.toNat_add_of_and_eq_zero hdisjoint
  have hle : (t &&& ~~~m).toNat ≤ (~~~m).toNat := by rw [BitVec.toNat_and]; exact Nat.and_le_right
  rw [hsplit] at hsum
  rw [BitVec.toNat_not] at hle
  have := m.isLt
  omega

/-- A row selects `OFF[1:0]` with value 0, and every offset between its smallest and its largest word's names a register
(10_state.md R24). -/
abbrev OnRegisters (row : Row) : Prop :=
  let last := row.value + (2 ^ 45 - 1 - row.mask)
  row.mask < 2 ^ 45 ∧ row.mask >>> 32 &&& 3 = 3 ∧ row.value >>> 32 &&& 3 = 0 ∧ row.value / 2 ^ 44 = last / 2 ^ 44 ∧
    (last / 2 ^ 32 % 2 ^ 12 < 0x048 ∨ (0x400 ≤ row.value / 2 ^ 32 % 2 ^ 12 ∧ last / 2 ^ 32 % 2 ^ 12 < 0x818))

theorem busRows_onRegisters : ∀ row ∈ busRows, OnRegisters row := by decide

theorem busOff_toNat (t : BitVec 45) : (busOff t).toNat = t.toNat / 2 ^ 32 % 2 ^ 12 := by
  rw [busOff, BitVec.extractLsb'_toNat, Nat.shiftRight_eq_div_pow]

theorem regAt_of_holds (hmem : row ∈ busRows) (h : row.holds t.toNat = true) : regAt (busOff t) ≠ none := by
  obtain ⟨hmask, hlow, hzero, hwrite, hrange⟩ := busRows_onRegisters row hmem
  have hvalue : (t &&& BitVec.ofNat 45 row.mask).toNat = row.value := by
    rw [BitVec.toNat_and, BitVec.toNat_ofNat, Nat.mod_eq_of_lt hmask, holds_iff.mp h]
  have hbounds := toNat_range_of_and t (BitVec.ofNat 45 row.mask)
  rw [hvalue, BitVec.toNat_ofNat, Nat.mod_eq_of_lt hmask] at hbounds
  have haligned : t.toNat >>> 32 % 4 = 0 := calc
    t.toNat >>> 32 % 4 = t.toNat >>> 32 &&& 3 := (Nat.and_two_pow_sub_one_eq_mod _ 2).symm
    _ = (t.toNat &&& row.mask) >>> 32 &&& 3 := by rw [Nat.shiftRight_and_distrib, Nat.and_assoc, hlow]
    _ = 0 := by rw [holds_iff.mp h, hzero]
  rw [Nat.shiftRight_eq_div_pow] at haligned
  rw [Ne, regAt_eq_none_iff, busOff_toNat]
  omega

/-- Settles O4: where the offset names a register, the row decoded to is the one row that holds; where it names none,
no row holds and there is no row decoded to. -/
theorem busWordDecodesToTheOneRowItMatches : Obligations.BusWordDecodesToTheOneRowItMatches := by
  intro t
  refine ⟨fun row hmem => ⟨fun h => ?_, fun h => ?_⟩, ⟨fun h row hmem => ?_, fun h => ?_⟩, rfl⟩
  · obtain ⟨row', hmem', hrow', h'⟩ := decodeBus_row (regAt_of_holds hmem h)
    rw [hrow', row_eq_of_holds hmem hmem' h h']
  · have hreg : regAt (busOff t) ≠ none := fun hnone => by simp [decodeBus, hnone, tableRow] at h
    obtain ⟨row', -, hrow', h'⟩ := decodeBus_row hreg
    cases hrow'.symm.trans h
    exact h'
  · have hnone := (decode_bus_eq_busError_iff t).mp (congrArg Decoded.instr h)
    exact Bool.eq_false_iff.mpr fun hholds => regAt_of_holds hmem hholds hnone
  · by_cases hnone : regAt (busOff t) = none
    · simp [decodeBus, hnone]
    · obtain ⟨row, hmem, -, hholds⟩ := decodeBus_row hnone
      simp [h row hmem] at hholds

end Sys2Proof.Proofs
end

section
/-! A frame's LEN and layout (30_encoding.md R86, R87) and a character's levels (R84, 42_decoder.md R165). -/

namespace Sys2Proof.Proofs

open Sys2Proof.Config Sys2Proof.Machine

/-! LEN and the frame's layout. -/

theorem lenByte_of_le {p : Nat} (h : p ≤ 244) : (lenByte p).toNat = p + 6 := by
  have hlimit : p + frameOverhead ≤ lenLimit := by simp only [frameOverhead, lenLimit]; omega
  rw [lenByte, if_pos hlimit, BitVec.toNat_ofNat, frameOverhead]
  omega

theorem lenByte_of_ge {p : Nat} (h : 245 ≤ p) : lenByte p = 0x00#8 :=
  if_neg (by simp only [frameOverhead, lenLimit]; omega)

/-- Settles O25: the two branches of LEN. -/
theorem lenByteIsTotalOrZeroAbove250 : Obligations.LenByteIsTotalOrZeroAbove250 :=
  fun _ => ⟨lenByte_of_le, lenByte_of_ge⟩

theorem buildFrame_eq_cons (cmd : Byte) (p : List Byte) :
    buildFrame cmd p = sync :: addr :: lenByte p.length :: cmd :: (p ++ checksumBytes (frameHead cmd p)) := rfl

/-- From index 4 on a frame is its payload and its checksum. -/
theorem buildFrame_getElem?_four_add (cmd : Byte) (p : List Byte) (k : Nat) :
    (buildFrame cmd p)[4 + k]? = (p ++ checksumBytes (frameHead cmd p))[k]? := by
  rw [Nat.add_comm, buildFrame_eq_cons]
  rfl

theorem buildFrame_take_head (cmd : Byte) (p : List Byte) : (buildFrame cmd p).take (4 + p.length) = frameHead cmd p :=
  List.take_left' (by rw [frameHead_length, Nat.add_comm])

/-- Settles O26: the first four indices are the head's, the rest are an index into payload and checksum. -/
theorem frameLayoutIndexByIndex : Obligations.FrameLayoutIndexByIndex := by
  intro cmd p
  refine ⟨by rw [buildFrame_length, Nat.add_comm], rfl, rfl, rfl, rfl, fun k hk => ?_, ?_, ?_⟩
  · rw [buildFrame_getElem?_four_add, List.getElem?_append_left hk]
  · rw [buildFrame_getElem?_four_add, buildFrame_take_head, List.getElem?_append_right le_rfl, Nat.sub_self]
    rfl
  · rw [show 5 + p.length = 4 + (p.length + 1) by omega, buildFrame_getElem?_four_add, buildFrame_take_head,
      List.getElem?_append_right (Nat.le_add_right _ 1), Nat.add_sub_cancel_left]
    rfl

/-! The UART character. -/

/-- Bit `k` of the byte of a list of bits is the list's bit `k`. -/
theorem byteOfBits_getLsbD (bits : List Bool) {k : Nat} (hk : k < 8) :
    (byteOfBits bits).getLsbD k = bits[k]?.getD false := by
  induction bits generalizing k with
  | nil => simp [byteOfBits]
  | cons x xs ih =>
    cases k with
    | zero => simp [byteOfBits]
    | succ k =>
      have hk' : k < 8 := by omega
      simpa [byteOfBits, hk, hk'] using ih hk'

/-- The data bits of a character, least significant first, are its byte (30_encoding.md R84). -/
theorem byteOfBits_bits (b : Byte) :
    byteOfBits [b.getLsbD 0, b.getLsbD 1, b.getLsbD 2, b.getLsbD 3, b.getLsbD 4, b.getLsbD 5, b.getLsbD 6,
      b.getLsbD 7] = b := by
  apply BitVec.eq_of_getLsbD_eq
  intro k hk
  rw [byteOfBits_getLsbD _ hk]
  interval_cases k <;> rfl

/-- Ten levels with a start bit, the bits of a byte and any stop bit are read as that byte (42_decoder.md R165). -/
theorem uartSample_bits (b : Byte) (stop : Bool) :
    uartSample ((uartChar b).take 9 ++ [stop]) = some (b, stop) := by
  conv_rhs => rw [← byteOfBits_bits b]
  rfl

/-- Settles O7: a character is its data bits between start and stop bit, and a line at space is the character 0x00 with
stop bit 0. -/
theorem uartCharacterIsTenBitsAndReadsBack : Obligations.UartCharacterIsTenBitsAndReadsBack :=
  fun b => ⟨rfl, uartSample_bits b true, uartSample_bits b false, uartSample_bits 0x00#8 false⟩

end Sys2Proof.Proofs
end

section
/-! The expansions of 30_encoding.md R97: a command's lines, run one step each, leave the state of the command's one
step. The bus response, which every line sets, is carried through the operations. -/

namespace Sys2Proof.Proofs

open Sys2Proof.Config Sys2Proof.Machine

variable {s : State}

@[simp] theorem dataByte_byteData (b : Byte) : dataByte (byteData b) = b := by
  ext k hk
  have hk32 : k < 32 := by omega
  simp [dataByte, byteData, hk32, BitVec.getLsbD_eq_getElem hk]

/-! The transmitter's operations do not see the bus response, nor the reset input. -/

theorem respond_push (s : State) (r : BusResponse) (b : Byte) : (s.respond r).push b = (s.push b).respond r := by
  rw [State.push, State.push, State.respond_txq, apply_ite (State.respond · r)]
  rfl

theorem respond_unlessBusy (s u : State) (r : BusResponse) :
    (s.respond r).unlessBusy (u.respond r) = (s.unlessBusy u).respond r := by
  rw [State.unlessBusy, State.unlessBusy, apply_ite (State.respond · r)]
  rfl

theorem respond_latch_emptyQueue (s : State) (r : BusResponse) (f : List Byte) :
    ((s.respond r).latch f).emptyQueue = (s.latch f).emptyQueue.respond r := rfl

theorem respond_startEncode (s : State) (r : BusResponse) : (s.respond r).startEncode = s.startEncode.respond r := by
  rw [State.startEncode, State.startEncode, State.respond_txCmd, State.respond_txq, respond_latch_emptyQueue,
    respond_unlessBusy]

@[simp] theorem push_resetIn (s : State) (b : Byte) : (s.push b).resetIn = s.resetIn := by
  obtain ⟨-, heq⟩ | ⟨-, heq⟩ := s.push_cases b <;> rw [heq] <;> rfl

@[simp] theorem pushAll_resetIn (s : State) (bs : List Byte) : (s.pushAll bs).resetIn = s.resetIn := by
  induction bs generalizing s with
  | nil => rfl
  | cons b bs ih => exact (ih (s.push b)).trans (push_resetIn s b)

/-! Lines. -/

/-- A line that writes a register has that write's effect, and the next line runs from there. -/
theorem runLines_writeWord (hin : s.resetIn = false) {r : Reg} (hr : regExists r = true) {d : Word} {u : State}
    (hexec : exec (decodeWrite d r) s = u.writeDone) (rest : List Raw) :
    runLines s (writeWord r d :: rest) = runLines (u.respond .done) rest := by
  rw [runLines, step_place_writeWord hin hr, hexec, State.writeDone]

/-- The lines of PUSH, after a line that completed. -/
theorem runLines_linesPush (hin : s.resetIn = false) (bs : List Byte) (rest : List Raw) :
    runLines (s.respond .done) (linesPush bs ++ rest) = runLines ((s.pushAll bs).respond .done) rest := by
  induction bs generalizing s with
  | nil => rfl
  | cons b bs ih =>
    have hexec : exec (decodeWrite (byteData b) .txData) (s.respond .done) = ((s.push b).respond .done).writeDone := by
      simp only [decodeWrite, exec, execTxDataWr, dataByte_byteData, respond_push]
    calc runLines (s.respond .done) (linesPush (b :: bs) ++ rest)
      _ = runLines ((s.push b).respond .done) (linesPush bs ++ rest) :=
        runLines_writeWord (by simpa using hin) rfl hexec (linesPush bs ++ rest)
      _ = runLines ((s.pushAll (b :: bs)).respond .done) rest := ih (by simpa using hin)

/-- The lines of SEND: the command byte, the pushes, ENCODE. -/
theorem runLines_linesSend (hin : s.resetIn = false) (cmd : Byte) (p : List Byte) :
    runLines s (linesSend cmd p) = some ((s.sendCommand cmd p).respond .done) := by
  have hcmd : exec (decodeWrite (byteData cmd) .txCmd) s = (s.setCmd cmd).writeDone := by
    simp only [decodeWrite, exec, execTxCmdWr, dataByte_byteData]
  have hencode : exec (decodeWrite 0x1#32 .txGo) (((s.setCmd cmd).pushAll p).respond .done) =
      ((s.sendCommand cmd p).respond .done).writeDone :=
    congrArg State.writeDone (respond_startEncode ((s.setCmd cmd).pushAll p) .done)
  calc runLines s (linesSend cmd p)
    _ = runLines ((s.setCmd cmd).respond .done) (linesPush p ++ [writeWord .txGo 0x1#32]) :=
      runLines_writeWord hin rfl hcmd _
    _ = runLines (((s.setCmd cmd).pushAll p).respond .done) [writeWord .txGo 0x1#32] :=
      runLines_linesPush (by simpa using hin) p _
    _ = some ((s.sendCommand cmd p).respond .done) := runLines_writeWord (by simpa using hin) rfl hencode []

/-- An instruction whose meaning is SEND leaves what the lines of SEND leave. -/
theorem runLines_of_exec_send (hin : s.resetIn = false) {i : Instr} {cmd : Byte} {p : List Byte}
    (hsend : exec i s = (s.sendCommand cmd p).writeDone) (t : State) (h : exec i s = .next t) :
    runLines s (linesSend cmd p) = some t := by
  cases hsend.symm.trans h
  exact runLines_linesSend hin cmd p

/-- SENDACK and SENDNAK: one `TX_GO` write, whose operation has the instruction's meaning. -/
theorem runLines_of_exec_go (hin : s.resetIn = false) {i : Instr} {d : Word} {u : State}
    (hgo : exec (decodeWrite d .txGo) s = u.writeDone) (hi : exec i s = u.writeDone) (t : State)
    (h : exec i s = .next t) : runLines s [writeWord .txGo d] = some t := by
  cases hi.symm.trans h
  exact runLines_writeWord hin rfl hgo []

theorem exec_cmdAck_of_ne_nil {p : List Byte} (hp : p ≠ []) (s : State) :
    exec (.cmdAck p) s = (s.sendCommand codeAck p).writeDone := by
  cases p with
  | nil => exact absurd rfl hp
  | cons b bs => rfl

theorem exec_cmdNak_of_ne_nil {p : List Byte} (hp : p ≠ []) (s : State) :
    exec (.cmdNak p) s = (s.sendCommand codeNak p).writeDone := by
  cases p with
  | nil => exact absurd rfl hp
  | cons b bs => rfl

/-- Settles O55: nine commands are SEND by their meaning, ACK and NAK are SEND with a payload and one `TX_GO` write
without. -/
theorem commandIsItsLinesRunOneByOne : Obligations.CommandIsItsLinesRunOneByOne := by
  intro s p hin
  have hsend (i : Instr) (cmd : Byte) (h : exec i s = (s.sendCommand cmd p).writeDone) := runLines_of_exec_send hin h
  exact ⟨hsend (.cmdPoll p) _ rfl, hsend (.cmdReset p) _ rfl, hsend (.cmdGetStatus p) _ rfl,
    hsend (.cmdSetSecurity p) _ rfl, hsend (.cmdEnableBillTypes p) _ rfl, hsend (.cmdStack p) _ rfl,
    hsend (.cmdReturn p) _ rfl, hsend (.cmdIdentification p) _ rfl, hsend (.cmdHold p) _ rfl,
    runLines_of_exec_go hin (u := s.startMinimal codeAck) rfl rfl,
    runLines_of_exec_go hin (u := s.startMinimal codeNak) rfl rfl,
    fun t hp => hsend (.cmdAck p) _ (exec_cmdAck_of_ne_nil hp s) t,
    fun t hp => hsend (.cmdNak p) _ (exec_cmdNak_of_ne_nil hp s) t, _, rfl⟩

end Sys2Proof.Proofs
end

section
/-! The CRC (40_crc.md R110 to R112): a turn of the loop is linear and injective, so the fold is, and folding two bytes
is sixteen turns on a half-word, which gives the residue. -/

namespace Sys2Proof.Proofs

open Sys2Proof.Config Sys2Proof.Machine

/-! The loop. -/

theorem crcShift_eq_xor (c : Half) : crcShift c = (c >>> 1) ^^^ (if c.getLsbD 0 then poly else 0#16) := by
  rw [crcShift]
  split
  · rfl
  · exact BitVec.xor_zero.symm

theorem crcShift_of_even {c : Half} (h : c.getLsbD 0 = false) : crcShift c = c >>> 1 := by
  rw [crcShift, h, if_neg Bool.false_ne_true]

theorem crcShift_xor (c d : Half) : crcShift (c ^^^ d) = crcShift c ^^^ crcShift d := by
  have hpoly : (if (c ^^^ d).getLsbD 0 then poly else 0#16) =
      (if c.getLsbD 0 then poly else 0#16) ^^^ (if d.getLsbD 0 then poly else 0#16) := by
    rw [BitVec.getLsbD_xor]
    cases c.getLsbD 0 <;> cases d.getLsbD 0 <;> decide
  rw [crcShift_eq_xor, crcShift_eq_xor c, crcShift_eq_xor d, hpoly, BitVec.ushiftRight_xor_distrib]
  ac_rfl

/-- Bit 15 after a turn is the bit shifted out, as 0x8408 has bit 15. -/
theorem crcShift_getLsbD_fifteen (c : Half) : (crcShift c).getLsbD 15 = c.getLsbD 0 := by
  have hpoly : poly.getLsbD 15 = true := by decide
  rw [crcShift_eq_xor, BitVec.getLsbD_xor, BitVec.getLsbD_ushiftRight, BitVec.getLsbD_of_ge c _ (by omega)]
  cases c.getLsbD 0
  · simp
  · simpa using hpoly

theorem eq_zero_of_crcShift_eq_zero {c : Half} (h : crcShift c = 0#16) : c = 0#16 := by
  have hlow : c.getLsbD 0 = false := by rw [← crcShift_getLsbD_fifteen, h, BitVec.getLsbD_zero]
  have hrest : c >>> 1 = 0#16 := by rwa [crcShift_of_even hlow] at h
  apply BitVec.eq_of_getLsbD_eq
  intro k _
  cases k with
  | zero => simpa using hlow
  | succ k =>
    have hbit : (c >>> 1).getLsbD k = false := by rw [hrest, BitVec.getLsbD_zero]
    simpa [Nat.add_comm] using hbit

theorem crcShifts_xor (n : Nat) (c d : Half) : crcShifts n (c ^^^ d) = crcShifts n c ^^^ crcShifts n d := by
  induction n generalizing c d with
  | zero => rfl
  | succ n ih =>
    rw [crcShifts, crcShift_xor]
    exact ih _ _

theorem crcShifts_zero (n : Nat) : crcShifts n 0#16 = 0#16 := by
  induction n with
  | zero => rfl
  | succ n ih => exact ih

theorem eq_zero_of_crcShifts_eq_zero {n : Nat} {c : Half} (h : crcShifts n c = 0#16) : c = 0#16 := by
  induction n generalizing c with
  | zero => exact h
  | succ n ih => exact eq_zero_of_crcShift_eq_zero (ih h)

theorem crcShifts_injective (n : Nat) : Function.Injective (crcShifts n) := by
  intro c d h
  apply BitVec.xor_eq_zero_iff.mp
  apply eq_zero_of_crcShifts_eq_zero (n := n)
  rw [crcShifts_xor, h, BitVec.xor_self]

theorem crcShifts_add (m n : Nat) (c : Half) : crcShifts (m + n) c = crcShifts n (crcShifts m c) := by
  induction m generalizing c with
  | zero => rw [Nat.zero_add, crcShifts]
  | succ m ih => rw [Nat.succ_add, crcShifts, ih, crcShifts]

/-- Turns that meet only clear bits are a shift. -/
theorem crcShifts_of_low_bits_clear {n : Nat} {c : Half} (h : ∀ k < n, c.getLsbD k = false) :
    crcShifts n c = c >>> n := by
  induction n generalizing c with
  | zero => rfl
  | succ n ih =>
    have hrest : ∀ k < n, (c >>> 1).getLsbD k = false := fun k hk => by
      rw [BitVec.getLsbD_ushiftRight]
      exact h _ (by omega)
    rw [crcShifts, crcShift_of_even (h 0 (Nat.succ_pos n)), ih hrest, ← BitVec.shiftRight_add, Nat.add_comm]

/-- Eight turns bring the high byte of a half-word down. -/
theorem crcShifts_eight_shiftLeft (b : Byte) :
    crcShifts 8 (b.zeroExtend 16 <<< 8) = b.zeroExtend 16 := by
  rw [crcShifts_of_low_bits_clear fun k hk => by simp [hk]]
  apply BitVec.eq_of_getLsbD_eq
  intro k hk
  rcases Nat.lt_or_ge k 8 with h8 | h8
  · have : 8 + k < 16 := by omega
    simp [this, hk]
  · simp [BitVec.getLsbD_of_ge b k h8]

theorem crcShifts_eq_iterate (n : Nat) (c : Half) : crcShifts n c = crcShift^[n] c := by
  induction n generalizing c with
  | zero => rfl
  | succ n ih => exact ih (crcShift c)

theorem crcStep_zero_zero : crcStep 0x0000#16 0x00#8 = 0x0000#16 := by decide

/-- Settles O19: `crcShifts` iterates R110's turn. -/
theorem crcStepIsTheReflectedLoop : Obligations.CrcStepIsTheReflectedLoop :=
  ⟨fun c b => crcShifts_eq_iterate 8 (c ^^^ b.zeroExtend 16), crcStep_zero_zero, by decide, by decide⟩

/-! One byte. -/

theorem crcStep_xor (c d : Half) (a b : Byte) : crcStep (c ^^^ d) (a ^^^ b) = crcStep c a ^^^ crcStep d b := by
  have hin : c ^^^ d ^^^ (a ^^^ b).zeroExtend 16 = (c ^^^ a.zeroExtend 16) ^^^ (d ^^^ b.zeroExtend 16) := by
    have hext : (a ^^^ b).zeroExtend 16 = a.zeroExtend 16 ^^^ b.zeroExtend 16 := BitVec.setWidth_xor
    rw [hext]
    ac_rfl
  rw [crcStep, hin, crcShifts_xor, crcStep, crcStep]

theorem crcStep_left_injective (b : Byte) : Function.Injective (crcStep · b) := fun _ _ h =>
  (BitVec.xor_left_inj _).mp (crcShifts_injective 8 h)

theorem crcStep_right_injective (c : Half) : Function.Injective (crcStep c) := by
  intro a b h
  have hext : a.zeroExtend 16 = b.zeroExtend 16 := (BitVec.xor_right_inj c).mp (crcShifts_injective 8 h)
  simpa using congrArg (BitVec.setWidth 8) hext

/-! Lists. -/

theorem crc16_append (xs ys : List Byte) : crc16 (xs ++ ys) = crcFold (crc16 xs) ys := crcFold_append crcInit xs ys

theorem crcFold_zipWith_xor {xs ys : List Byte} (h : xs.length = ys.length) (c d : Half) :
    crcFold (c ^^^ d) (List.zipWith (fun x y => x ^^^ y) xs ys) = crcFold c xs ^^^ crcFold d ys := by
  induction xs generalizing ys c d with
  | nil => cases ys with
    | nil => rfl
    | cons y ys => cases h
  | cons x xs ih => cases ys with
    | nil => cases h
    | cons y ys =>
      rw [List.zipWith_cons_cons, crcFold, crcStep_xor]
      exact ih (Nat.succ.inj h) _ _

theorem crcFold_left_injective (xs : List Byte) : Function.Injective (crcFold · xs) := by
  induction xs with
  | nil => exact Function.injective_id
  | cons x xs ih => exact ih.comp (crcStep_left_injective x)

/-- Changing one byte of a list changes its CRC. -/
theorem eq_of_crc16_set_eq {xs : List Byte} {k : Nat} (hk : k < xs.length) {b : Byte}
    (h : crc16 (xs.set k b) = crc16 xs) : b = xs[k] := by
  have hsplit : xs = xs.take k ++ xs[k] :: xs.drop (k + 1) := by simp
  have hset : xs.set k b = xs.take k ++ b :: xs.drop (k + 1) := by rw [List.set_eq_take_append_cons_drop, if_pos hk]
  rw [hset] at h
  conv_rhs at h => rw [hsplit]
  rw [crc16_append, crc16_append] at h
  exact crcStep_right_injective _ (crcFold_left_injective _ h)

theorem halfOf_eq_xor (l h : Byte) : halfOf l h = l.zeroExtend 16 ^^^ (h.zeroExtend 16 <<< 8) := by
  apply BitVec.eq_of_getLsbD_eq
  intro k hk
  rcases Nat.lt_or_ge k 8 with h8 | h8
  · simp [halfOf, h8]
  · simp [halfOf, BitVec.getLsbD_of_ge l k h8]

/-- Folding two bytes is sixteen turns on the CRC with both XORed in. -/
theorem crcFold_pair (c : Half) (l h : Byte) : crcFold c [l, h] = crcShifts 16 (c ^^^ halfOf l h) := by
  calc crcFold c [l, h]
    _ = crcShifts 8 (crcShifts 8 (c ^^^ l.zeroExtend 16) ^^^ h.zeroExtend 16) := rfl
    _ = crcShifts 8 (crcShifts 8 ((c ^^^ l.zeroExtend 16) ^^^ (h.zeroExtend 16 <<< 8))) := by
      rw [crcShifts_xor 8 (c ^^^ _), crcShifts_eight_shiftLeft]
    _ = crcShifts 16 (c ^^^ halfOf l h) := by rw [← crcShifts_add, halfOf_eq_xor, BitVec.xor_assoc]

/-- Two bytes bring the CRC to 0 exactly when they are the CRC, low byte first. -/
theorem crcFold_pair_eq_zero_iff {c : Half} {l h : Byte} : crcFold c [l, h] = 0#16 ↔ c = halfOf l h := by
  rw [crcFold_pair, ← crcShifts_zero 16, (crcShifts_injective 16).eq_iff, BitVec.xor_eq_zero_iff]

theorem crc16_append_checksumBytes (xs : List Byte) : crc16 (xs ++ checksumBytes xs) = 0#16 := by
  rw [crc16_append, checksumBytes, crcFold_pair_eq_zero_iff, halfOf_lo_hi]

theorem crc16_zero_cons (xs : List Byte) : crc16 (0x00#8 :: xs) = crc16 xs := by
  rw [crc16, crcFold, crcStep_zero_zero, crc16]

theorem crc16_append_of_eq_zero {f : List Byte} (hf : crc16 f = 0#16) (g : List Byte) : crc16 (f ++ g) = crc16 g := by
  rw [crc16_append, hf, crc16]

theorem crc16_flatten_eq_zero (fs : List (List Byte)) (h : ∀ f ∈ fs, crc16 f = 0#16) : crc16 fs.flatten = 0#16 := by
  induction fs with
  | nil => rfl
  | cons f fs ih =>
    obtain ⟨hf, hfs⟩ := List.forall_mem_cons.mp h
    rw [List.flatten_cons, crc16_append_of_eq_zero hf, ih hfs]

/-! The comparison of 42_decoder.md R170. -/

theorem frameBody_append_last_two {f : List Byte} (h : 2 ≤ f.length) :
    frameBody f ++ [f.getD (f.length - 2) 0#8, f.getD (f.length - 1) 0#8] = f := by
  have hlast : f.drop (f.length - 2) = [f.getD (f.length - 2) 0#8, f.getD (f.length - 1) 0#8] := by
    rw [List.drop_eq_getElem_cons (by omega), List.drop_eq_getElem_cons (by omega), List.drop_eq_nil_of_le (by omega)]
    have hnext : f.length - 2 + 1 = f.length - 1 := by omega
    simp only [hnext]
    rw [List.getD_eq_getElem _ _ (by omega), List.getD_eq_getElem _ _ (by omega)]
  rw [← hlast, frameBody, List.take_append_drop]

/-- A frame passes exactly when its CRC over all its bytes is 0. -/
theorem frameCrcOk_iff {f : List Byte} : frameCrcOk f = true ↔ 2 ≤ f.length ∧ crc16 f = 0#16 := by
  by_cases hlen : 2 ≤ f.length
  · conv_rhs => rw [← frameBody_append_last_two hlen]
    simp [frameCrcOk, frameCrcCalc, frameCrcRecv, hlen, crc16_append, crcFold_pair_eq_zero_iff]
  · simp [frameCrcOk, hlen]

theorem xor_one_shiftLeft_ne (b : Byte) {j : Nat} (hj : j < 8) : b ^^^ (1#8 <<< j) ≠ b := by
  intro h
  have hbit := congrArg (BitVec.getLsbD · j) h
  simp [hj] at hbit

/-- R112 (d): before and after the flip a passing frame would have CRC 0, but one byte differs. -/
theorem frameCrcOk_flip {f : List Byte} {k j : Nat} (hok : frameCrcOk f = true) (hk : k < f.length) (hj : j < 8) :
    frameCrcOk (f.set k (f.getD k 0x00#8 ^^^ (1#8 <<< j))) = false := by
  rw [List.getD_eq_getElem _ _ hk, Bool.eq_false_iff]
  intro hflip
  obtain ⟨-, hzero⟩ := frameCrcOk_iff.mp hok
  obtain ⟨-, hzeroFlip⟩ := frameCrcOk_iff.mp hflip
  exact xor_one_shiftLeft_ne _ hj (eq_of_crc16_set_eq hk (hzeroFlip.trans hzero.symm))

/-- Settles O21: the residue by `crcFold_pair_eq_zero_iff`, linearity from the turn's, bit errors by injectivity, and
concatenation because the fold resumes. -/
theorem crcResidueLinearityAndErrorDetection : Obligations.CrcResidueLinearityAndErrorDetection :=
  ⟨crc16_append_checksumBytes, crcStep_xor, fun _ _ hlen => crcFold_zipWith_xor hlen 0#16 0#16, crc16_zero_cons,
    crcStep_zero_zero, fun _ _ _ => frameCrcOk_flip, fun _ g hf => crc16_append_of_eq_zero hf g,
    crc16_flatten_eq_zero⟩

theorem buildFrame_eq_body_append (cmd : Byte) (p : List Byte) :
    buildFrame cmd p = frameBody (buildFrame cmd p) ++ checksumBytes (frameBody (buildFrame cmd p)) := by
  rw [frameBody_buildFrame, buildFrame]

/-- The CRC of the head of the POLL frame, byte by byte. -/
theorem crc16_pollHead : crc16 [0x02#8, 0x03#8, 0x06#8, 0x33#8] = 0x81DA#16 := by
  have h1 : crcStep crcInit 0x02#8 = 0x2312#16 := by decide
  have h2 : crcStep 0x2312#16 0x03#8 = 0x012B#16 := by decide
  have h3 : crcStep 0x012B#16 0x06#8 = 0xFAE6#16 := by decide
  have h4 : crcStep 0xFAE6#16 0x33#8 = 0x81DA#16 := by decide
  rw [crc16, crcFold, h1, crcFold, h2, crcFold, h3, crcFold, h4, crcFold]

theorem buildFrame_poll : buildFrame 0x33#8 [] = [0x02#8, 0x03#8, 0x06#8, 0x33#8, 0xDA#8, 0x81#8] := by
  have hhead : frameHead 0x33#8 [] = [0x02#8, 0x03#8, 0x06#8, 0x33#8] := rfl
  rw [buildFrame, checksumBytes, hhead, crc16_pollHead]
  rfl

/-- Settles O20: the fold, two check values, and a built frame as its body and that body's checksum. -/
theorem crcOfAListIsTheFoldFromZero : Obligations.CrcOfAListIsTheFoldFromZero :=
  ⟨crcFold_eq_foldl crcInit, rfl, crc16_pollHead, buildFrame_eq_body_append, buildFrame_poll⟩

end Sys2Proof.Proofs
end

section
/-! The standalone CRC unit (40_crc.md R114 to R117) and the lines of the pseudo-instruction CRC (30_encoding.md
R97). -/

namespace Sys2Proof.Proofs

open Sys2Proof.Config Sys2Proof.Machine

variable {s : State}

/-- Settles O23: the register map's words for the two offsets, and each meaning's whole next state. -/
theorem crcUnitRegisters : Obligations.CrcUnitRegisters :=
  ⟨decode_readWord .crcAcc rfl, decode_readWord .crcData rfl, fun d => decode_writeWord .crcData d rfl,
    fun d => decode_writeWord .crcAcc d rfl, fun _ _ => rfl,
    fun xs ys => (crc16_append xs ys).trans (crcFold_eq_foldl _ ys),
    fun _ => rfl, fun _ => rfl, fun _ _ => ⟨_, rfl, rfl, rfl⟩, by decide⟩

/-- A `CRC_DATA` line folds its byte into the accumulator. -/
theorem runLines_crcData_cons (hin : s.resetIn = false) (b : Byte) (rest : List Raw) :
    runLines s (writeWord .crcData (byteData b) :: rest) =
      runLines ((s.setCrc (crcStep s.crcAcc b)).respond .done) rest := by
  have hexec : exec (decodeWrite (byteData b) .crcData) s = (s.setCrc (crcStep s.crcAcc b)).writeDone := by
    simp only [decodeWrite, exec, execCrcDataWr, dataByte_byteData]
  exact runLines_writeWord hin rfl hexec rest

/-- `CRC_DATA` lines after a line that completed resume the fold from the accumulator. -/
theorem runLines_crcData (hin : s.resetIn = false) (c : Half) (bs : List Byte) :
    runLines ((s.setCrc c).respond .done) (bs.map fun b => writeWord .crcData (byteData b)) =
      some ((s.setCrc (crcFold c bs)).respond .done) := by
  induction bs generalizing c with
  | nil => rfl
  | cons b bs ih => exact (runLines_crcData_cons (by simpa using hin) b _).trans (ih (crcStep c b))

/-- Settles O24: the first line loads 0 or folds the first byte, and the others fold on from there. -/
theorem crcUnitComputesTheChecksumOfWrittenBytes : Obligations.CrcUnitComputesTheChecksumOfWrittenBytes := by
  refine ⟨fun s bs hin => ?_, fun s xs y ys hin hacc => ?_⟩
  · have hload : exec (decodeWrite 0x0#32 .crcAcc) s = (s.setCrc crcInit).writeDone := rfl
    exact (runLines_writeWord hin rfl hload _).trans (runLines_crcData hin crcInit bs)
  · rw [List.map_cons, runLines_crcData_cons hin, runLines_crcData hin, hacc, crc16_append]
    rfl

end Sys2Proof.Proofs
end

section
/-! The encoder's registers and the `TX_GO` operations (41_encoder.md R131, R134 to R141, R143 to R148): the busy rule
decided by the engine's state, and a built frame latched field by field. -/

namespace Sys2Proof.Proofs

open Sys2Proof.Config Sys2Proof.Machine

variable {s : State}

/-! The busy rule (41_encoder.md R135). -/

theorem unlessBusy_of_idle (h : s.txState = .idle) (u : State) : s.unlessBusy u = u :=
  if_neg (by simp [h])

theorem unlessBusy_of_sending (h : s.txState = .sending) (u : State) : s.unlessBusy u = s.setErr errTxBusy :=
  if_pos (s.txBusy_eq_true.mpr h)

/-- A write that asks for a frame while one is being sent. -/
theorem unlessBusy_writeDone_of_sending (h : s.txState = .sending) (u : State) :
    (s.unlessBusy u).writeDone = .next { s with err := s.err ||| 0b00010#5, busResp := .done } := by
  rw [unlessBusy_of_sending h]
  rfl

/-- Settles O29: the three operations are under the one busy rule. -/
theorem frameStartWhileSendingOnlySetsBusyError : Obligations.FrameStartWhileSendingOnlySetsBusyError :=
  fun _ _ h => ⟨unlessBusy_writeDone_of_sending h _, unlessBusy_writeDone_of_sending h _,
    unlessBusy_writeDone_of_sending h _⟩

/-! Latching a built frame (41_encoder.md R137 to R139). -/

theorem latch_buildFrame (s : State) (cmd : Byte) (p : List Byte) :
    s.latch (buildFrame cmd p) =
      { s with
        txFrame := buildFrame cmd p, txPos := 0, txState := .sending, txDone := false,
        txLastCrc := crc16 (frameHead cmd p), txLastLen := lenByte p.length,
        txLastTotal := BitVec.ofNat 16 (p.length + 6) } := by
  rw [State.latch, frameBody_buildFrame, buildFrame_length]
  rfl

theorem exec_goEncode_of_idle (h : s.txState = .idle) (d : Word) :
    exec (.goEncode d) s = (s.latch (buildFrame s.txCmd s.txq)).emptyQueue.writeDone :=
  congrArg State.writeDone (unlessBusy_of_idle h _)

theorem frameHead_eq_append (cmd : Byte) (p : List Byte) :
    frameHead cmd p = [0x02#8, 0x03#8, lenByte p.length, cmd] ++ p := rfl

/-- Settles O30: the word is the instruction's own encoding, and from idle the frame of `tx_cmd` and the queue is
latched. -/
theorem encodeLatchesTheFrameOfCommandAndQueue : Obligations.EncodeLatchesTheFrameOfCommandAndQueue := by
  refine ⟨fun d hop => decodeOfEncodeIsTheInstruction (.goEncode d) (beq_iff_eq.mpr hop), fun s d hidle => ?_,
    fun _ _ h => unlessBusy_writeDone_of_sending h _, buildFrame_poll⟩
  rw [exec_goEncode_of_idle hidle, latch_buildFrame, frameHead_eq_append]
  rfl

/-! Frames without payload (41_encoder.md R138, R139). -/

theorem crcFold_minimalPrefix : crcFold crcInit [0x02#8, 0x03#8, 0x06#8] = 0xFAE6#16 := by
  have hsync : crcStep crcInit 0x02#8 = 0x2312#16 := by decide
  have haddr : crcStep 0x2312#16 0x03#8 = 0x012B#16 := by decide
  have hlen : crcStep 0x012B#16 0x06#8 = 0xFAE6#16 := by decide
  rw [crcFold, hsync, crcFold, haddr, crcFold, hlen, crcFold]

theorem crc16_frameHead_nil (cmd : Byte) : crc16 (frameHead cmd []) = crcStep 0xFAE6#16 cmd := by
  rw [← crcFold_minimalPrefix]
  rfl

theorem buildFrame_nil (cmd : Byte) : buildFrame cmd [] =
    [0x02#8, 0x03#8, 0x06#8, cmd, lo (crcStep 0xFAE6#16 cmd), hi (crcStep 0xFAE6#16 cmd)] := by
  rw [buildFrame, checksumBytes, crc16_frameHead_nil]
  rfl

theorem crcStep_ack : crcStep 0xFAE6#16 0x00#8 = 0x82C2#16 := by decide

theorem crcStep_nak : crcStep 0xFAE6#16 0xFF#8 = 0x8DBA#16 := by decide

theorem buildFrame_ack : buildFrame 0x00#8 [] = [0x02#8, 0x03#8, 0x06#8, 0x00#8, 0xC2#8, 0x82#8] := by
  rw [buildFrame_nil, crcStep_ack]
  rfl

theorem buildFrame_nak : buildFrame 0xFF#8 [] = [0x02#8, 0x03#8, 0x06#8, 0xFF#8, 0xBA#8, 0x8D#8] := by
  rw [buildFrame_nil, crcStep_nak]
  rfl

/-- ACK and NAK from idle, with the checksum of their code still to be computed. -/
theorem startMinimal_writeDone_of_idle (h : s.txState = .idle) (cmd : Byte) :
    (s.startMinimal cmd).writeDone = .next
      { s with
        txFrame := buildFrame cmd [], txPos := 0, txState := .sending, txDone := false,
        txLastCrc := crcStep 0xFAE6#16 cmd, txLastLen := 0x06#8, txLastTotal := 6#16, busResp := .done } := by
  rw [State.startMinimal, unlessBusy_of_idle h, latch_buildFrame, crc16_frameHead_nil]
  rfl

theorem exec_goAck_of_idle (h : s.txState = .idle) (d : Word) :
    exec (.goAck d) s = .next
      { s with
        txFrame := [0x02#8, 0x03#8, 0x06#8, 0x00#8, 0xC2#8, 0x82#8], txPos := 0, txState := .sending,
        txDone := false, txLastCrc := 0x82C2#16, txLastLen := 0x06#8, txLastTotal := 6#16, busResp := .done } := by
  rw [exec, execGoAck, startMinimal_writeDone_of_idle h, buildFrame_ack, crcStep_ack]

theorem exec_goNak_of_idle (h : s.txState = .idle) (d : Word) :
    exec (.goNak d) s = .next
      { s with
        txFrame := [0x02#8, 0x03#8, 0x06#8, 0xFF#8, 0xBA#8, 0x8D#8], txPos := 0, txState := .sending,
        txDone := false, txLastCrc := 0x8DBA#16, txLastLen := 0x06#8, txLastTotal := 6#16, busResp := .done } := by
  rw [exec, execGoNak, startMinimal_writeDone_of_idle h, buildFrame_nak, crcStep_nak]

/-- Settles O31: the words are the instructions' own encodings, and the minimal frame of each code is computed. -/
theorem ackAndNakLatchTheirFixedFrames : Obligations.AckAndNakLatchTheirFixedFrames :=
  ⟨fun d hop => decodeOfEncodeIsTheInstruction (.goAck d) (beq_iff_eq.mpr hop),
    fun d hop => decodeOfEncodeIsTheInstruction (.goNak d) (beq_iff_eq.mpr hop),
    fun _ d h => ⟨exec_goAck_of_idle h d, exec_goNak_of_idle h d⟩,
    fun _ _ h => ⟨unlessBusy_writeDone_of_sending h _, unlessBusy_writeDone_of_sending h _⟩⟩

/-! The other operations and the queue. -/

/-- A reserved `OP` lies in one of the opcode table's three ranges. -/
theorem goOp_reserved_cases : ∀ op : BitVec 4, 0x5#4 ≤ op →
    op = 0x5#4 ∨ (op = 0x6#4 ∨ op = 0x7#4) ∨ op.getLsbD 3 = true := by decide

theorem decode_reservedGo {d : Word} (h : 0x5#4 ≤ goOp d) :
    ∃ i, decode (.bus (busWord true 0x020#12 d)) = .instr i ∧
      (i = .goRsvd5 d ∨ i = .goRsvd67 d ∨ i = .goRsvd8F d) := by
  obtain hop | hop | hop := goOp_reserved_cases _ h
  · exact ⟨_, decodeOfEncodeIsTheInstruction (.goRsvd5 d) (beq_iff_eq.mpr hop), .inl rfl⟩
  · exact ⟨_, decodeOfEncodeIsTheInstruction (.goRsvd67 d) (by simpa [Instr.wf] using hop), .inr (.inl rfl)⟩
  · exact ⟨_, decodeOfEncodeIsTheInstruction (.goRsvd8F d) hop, .inr (.inr rfl)⟩

/-- Settles O32: the words are the instructions' own encodings, and each meaning is its whole next state. -/
theorem nopFlushAndReservedOperations : Obligations.NopFlushAndReservedOperations :=
  ⟨fun d hop => decodeOfEncodeIsTheInstruction (.goNop d) (beq_iff_eq.mpr hop),
    fun d hop => decodeOfEncodeIsTheInstruction (.goFlush d) (beq_iff_eq.mpr hop),
    fun _ hop => decode_reservedGo hop, fun _ _ => ⟨rfl, rfl, rfl, rfl, rfl⟩⟩

/-- Settles O27: the register map's word, and the two branches of the push. -/
theorem txDataWriteAppendsOrOverflows : Obligations.TxDataWriteAppendsOrOverflows :=
  ⟨fun d => decode_writeWord .txData d rfl, fun _ _ => ⟨fun hroom => congrArg State.writeDone (if_pos hroom),
    fun hfull => congrArg State.writeDone (if_neg (Nat.not_lt.mpr hfull))⟩⟩

/-! Reads. -/

theorem count16_eq_ofNat_mod (n : Nat) : count16 n = BitVec.ofNat 32 (n % 65536) := by
  apply BitVec.eq_of_toNat_eq
  simp only [count16, BitVec.toNat_setWidth, BitVec.toNat_ofNat]

/-- Settles O35: the register map's words, and each register's value. -/
theorem encoderRegisterReads : Obligations.EncoderRegisterReads := by
  refine ⟨decode_readWord .txCmd rfl, decode_readWord .txData rfl, decode_readWord .txGo rfl,
    decode_readWord .txCount rfl, decode_readWord .txLastCrc rfl, decode_readWord .txLastLen rfl,
    decode_readWord .txPos rfl, fun s => ⟨rfl, rfl, rfl, ?_, rfl, rfl, ?_⟩⟩
  · rw [← count16_eq_ofNat_mod]
    rfl
  · rw [← count16_eq_ofNat_mod]
    rfl

end Sys2Proof.Proofs
end

section
/-! `tx_cmd` (41_encoder.md R132): which instructions leave it as it was, and what ENCODE makes of it. -/

namespace Sys2Proof.Proofs

open Sys2Proof.Config Sys2Proof.Machine

variable {s t u : State} {i : Instr}

/-! The shared operations. -/

@[simp] theorem push_txCmd (s : State) (b : Byte) : (s.push b).txCmd = s.txCmd := by
  obtain ⟨-, heq⟩ | ⟨-, heq⟩ := s.push_cases b <;> rw [heq] <;> rfl

theorem unlessBusy_txCmd (hu : u.txCmd = s.txCmd) : (s.unlessBusy u).txCmd = s.txCmd := by
  obtain ⟨-, heq⟩ | ⟨-, heq⟩ := s.unlessBusy_cases u <;> rw [heq]
  · exact hu
  · rfl

@[simp] theorem store_txCmd (s : State) (b : Byte) : (s.store b).txCmd = s.txCmd := by
  obtain ⟨-, heq⟩ | ⟨-, -, heq⟩ := s.store_cases b <;> rw [heq] <;> rfl

@[simp] theorem lineIn_txCmd (s : State) (b : Byte) (ok : Bool) : (s.lineIn b ok).txCmd = s.txCmd := by
  obtain ⟨-, heq⟩ | ⟨-, -, heq⟩ | ⟨-, -, heq⟩ := s.lineIn_cases b ok <;> simp [heq]

@[simp] theorem lineGap_txCmd (s : State) : s.lineGap.txCmd = s.txCmd := by
  obtain ⟨-, heq⟩ | ⟨-, heq⟩ := s.lineGap_cases <;> simp [heq]

@[simp] theorem baudHazard_txCmd (s : State) (sel : Bool) : (s.baudHazard sel).txCmd = s.txCmd := by
  unfold State.baudHazard
  split <;> rfl

theorem sendChar_txCmd (h : s.sendChar = .next t) : t.txCmd = s.txCmd := by
  obtain ⟨-, rfl⟩ | ⟨b, -, -, ⟨-, rfl⟩ | ⟨-, rfl⟩⟩ := s.sendChar_cases h <;> rfl

/-! Instructions. -/

/-- The instructions that may change `tx_cmd`: its write, the soft reset, and the commands that are sent by ENCODE. -/
def WritesTxCmd (i : Instr) : Prop :=
  (∃ d, i = .txCmdWr d) ∨ (∃ d, i = .ctrlSrst d) ∨
    ((∃ bytes, encode i = .frame bytes) ∧ i ≠ .cmdAck [] ∧ i ≠ .cmdNak [])

theorem exec_txCmd (h : exec i s = .next t) : t.txCmd = s.txCmd ∨ WritesTxCmd i := by
  cases i
  case txCmdWr d => exact .inr (.inl ⟨d, rfl⟩)
  case ctrlSrst d => exact .inr (.inr (.inl ⟨d, rfl⟩))
  case cmdAck p | cmdNak p =>
    cases p with
    | nil => cases h; exact .inl (unlessBusy_txCmd rfl)
    | cons b bs => exact .inr (.inr (.inr ⟨⟨_, rfl⟩, by simp, by simp⟩))
  case cmdPoll | cmdReset | cmdGetStatus | cmdSetSecurity | cmdEnableBillTypes | cmdStack | cmdReturn |
      cmdIdentification | cmdHold => exact .inr (.inr (.inr ⟨⟨_, rfl⟩, by simp, by simp⟩))
  case ctrlWr d => cases h; exact .inl (baudHazard_txCmd s _)
  case statusWr d => cases h; split <;> exact .inl rfl
  case txDataWr d => cases h; exact .inl (push_txCmd s _)
  case goEncode d | goAck d | goNak d => cases h; exact .inl (unlessBusy_txCmd rfl)
  case txeSend x => exact .inl (sendChar_txCmd h)
  case rxeChar b => cases h; exact .inl (lineIn_txCmd s b true)
  case rxeCharFerr b => cases h; exact .inl (lineIn_txCmd s b false)
  case rxeGap x => cases h; exact .inl (lineGap_txCmd s)
  -- Reads, ignored writes, settings, the other operations and bus errors.
  all_goals cases h; exact .inl rfl

/-- ENCODE with nothing queued latches the frame of the code in `tx_cmd`. -/
theorem exec_goEncode_txFrame_of_idle_of_nil {d : Word} (hidle : s.txState = .idle) (hqueue : s.txq = [])
    (h : exec (.goEncode d) s = .next t) : t.txFrame = buildFrame s.txCmd [] := by
  rw [exec_goEncode_of_idle hidle, hqueue] at h
  cases h
  rfl

/-- Settles O28: the write's effect, the instructions outside `WritesTxCmd`, and the two minimal frames. -/
theorem txCmdWriteSetsTheCommandByte : Obligations.TxCmdWriteSetsTheCommandByte := by
  refine ⟨fun d => decode_writeWord .txCmd d rfl, fun _ _ => rfl, fun _ _ _ h => exec_txCmd h,
    fun s t d hidle hqueue h => ?_⟩
  rw [exec_goEncode_txFrame_of_idle_of_nil hidle hqueue h]
  exact ⟨fun hcmd => hcmd ▸ buildFrame_ack, fun hcmd => hcmd ▸ buildFrame_nak⟩

end Sys2Proof.Proofs
end

section
/-! The transmit engine's step (41_encoder.md R142, 70_reset_and_hazards.md R285): what it does in each state, that left
alone it sends the whole frame, and that no receiver event interferes with it. -/

namespace Sys2Proof.Proofs

open Sys2Proof.Config Sys2Proof.Machine

variable {s t u : State} {b : Byte}

/-! One step: the converse directions of `State.sendChar_cases`. -/

theorem sendChar_of_idle (h : s.txState = .idle) : s.sendChar = .next s := if_neg (by simp [h])

theorem sendChar_of_sending (h : s.txState = .sending) (hget : s.txFrame[s.txPos]? = some b) :
    s.sendChar = .next (s.emit b).afterChar := by
  rw [State.sendChar, if_pos (s.txBusy_eq_true.mpr h), hget]

theorem sendChar_of_last (h : s.txState = .sending) (hget : s.txFrame[s.txPos]? = some b)
    (hlast : s.txPos + 1 = s.txFrame.length) : s.sendChar = .next (s.emit b).finishFrame := by
  rw [sendChar_of_sending h hget, State.afterChar, if_pos (by simpa using hlast)]

theorem sendChar_of_more (h : s.txState = .sending) (hget : s.txFrame[s.txPos]? = some b)
    (hmore : s.txPos + 1 ≠ s.txFrame.length) : s.sendChar = .next (s.emit b) := by
  rw [sendChar_of_sending h hget, State.afterChar, if_neg (by simpa using hmore)]

/-- Settles O33: the last character, another one, and the idle engine. -/
theorem engineSendsTheNextCharacter : Obligations.EngineSendsTheNextCharacter :=
  ⟨fun _ _ _ h hget => ⟨sendChar_of_last h hget, sendChar_of_more h hget⟩, fun _ _ h => sendChar_of_idle h⟩

/-! With nothing pending. -/

theorem turn_of_pending_nil (hin : s.resetIn = false) (hpending : s.pending = []) :
    turn s = if s.txBusy then .run (.txeSend 0x00#8) s else .settle s := by
  simp only [turn, hpending, turnEmpty, hin, Bool.false_eq_true, if_false]

theorem step_of_sending_alone (hin : s.resetIn = false) (hpending : s.pending = []) (h : s.txState = .sending) :
    step s = s.sendChar := by
  have hturn : turn s = .run (.txeSend 0x00#8) s := by
    rw [turn_of_pending_nil hin hpending, if_pos (s.txBusy_eq_true.mpr h)]
  exact step_of_turn_run hturn

theorem step_of_idle_alone (hin : s.resetIn = false) (hpending : s.pending = []) (h : s.txState = .idle) :
    step s = .next s := by
  have hturn : turn s = .settle s := by
    rw [turn_of_pending_nil hin hpending, if_neg (by simp [h])]
  simp only [step, hturn]

/-- Settles O9: the two branches of an empty list with the reset input released. -/
theorem engineStepsWhenNothingIsPending : Obligations.EngineStepsWhenNothingIsPending :=
  fun _ hin hpending => ⟨step_of_sending_alone hin hpending, step_of_idle_alone hin hpending⟩

/-! A whole frame. -/

theorem runSteps_succ_of_step (h : step s = .next t) (n : Nat) : runSteps (n + 1) s = runSteps n t := by
  simp only [runSteps, h]

theorem runSteps_sendRest (n : Nat) (hin : s.resetIn = false) (hpending : s.pending = []) (h : s.txState = .sending)
    (hleft : s.txPos + (n + 1) = s.txFrame.length) :
    runSteps (n + 1) s = some
      { s with
        line := s.line ++ s.txFrame.drop s.txPos, txState := .idle, txPos := 0, txFrame := [], txDone := true } := by
  induction n generalizing s with
  | zero =>
    have hinside : s.txPos < s.txFrame.length := by omega
    have hdrop : s.txFrame.drop s.txPos = [s.txFrame[s.txPos]] := by
      rw [List.drop_eq_getElem_cons hinside, hleft, List.drop_length]
    have hstep : step s = .next (s.emit s.txFrame[s.txPos]).finishFrame :=
      (step_of_sending_alone hin hpending h).trans (sendChar_of_last h (List.getElem?_eq_getElem hinside) hleft)
    rw [runSteps_succ_of_step hstep, hdrop]
    rfl
  | succ n ih =>
    have hinside : s.txPos < s.txFrame.length := by omega
    have hstep : step s = .next (s.emit s.txFrame[s.txPos]) :=
      (step_of_sending_alone hin hpending h).trans
        (sendChar_of_more h (List.getElem?_eq_getElem hinside) (by omega))
    have hleft' : (s.emit s.txFrame[s.txPos]).txPos + (n + 1) = (s.emit s.txFrame[s.txPos]).txFrame.length := by
      rw [State.emit_txPos, State.emit_txFrame]
      omega
    have hrest := ih (s := s.emit s.txFrame[s.txPos]) hin hpending h hleft'
    rw [runSteps_succ_of_step hstep, hrest, List.drop_eq_getElem_cons hinside, List.append_cons]
    rfl

/-- Settles O34: induction on the characters left, of which there is at least one. -/
theorem everyLatchedFrameIsSentWhole : Obligations.EveryLatchedFrameIsSentWhole := by
  intro s hin hpending hsending hinside
  obtain ⟨n, hn⟩ : ∃ n, s.txFrame.length - s.txPos = n + 1 := Nat.exists_eq_succ_of_ne_zero (by omega)
  rw [hn]
  exact runSteps_sendRest n hin hpending hsending (by omega)

/-! Receiver events (00_scope.md R13). -/

/-- An update that does not read or change what an engine step does, and that an engine step does not see. -/
structure IndependentOfEngine (f : State → State) : Prop where
  txState (s : State) : (f s).txState = s.txState
  txFrame (s : State) : (f s).txFrame = s.txFrame
  txPos (s : State) : (f s).txPos = s.txPos
  emit (s : State) (b : Byte) : f (s.emit b) = (f s).emit b
  finishFrame (s : State) : f s.finishFrame = (f s).finishFrame

variable {f g : State → State}

/-- The engine takes the same step before and after an update independent of it. -/
theorem IndependentOfEngine.sendChar (hf : IndependentOfEngine f) (h : s.sendChar = .next t) :
    (f s).sendChar = .next (f t) := by
  obtain ⟨hidle, rfl⟩ | ⟨b, hsending, hget, ⟨hlast, rfl⟩ | ⟨hmore, rfl⟩⟩ := s.sendChar_cases h
  · exact sendChar_of_idle ((hf.txState t).trans hidle)
  all_goals
    rw [← hf.txState] at hsending
    rw [← hf.txFrame, ← hf.txPos] at hget
  · rw [← hf.txFrame, ← hf.txPos] at hlast
    rw [hf.finishFrame, hf.emit, sendChar_of_last hsending hget hlast]
  · rw [← hf.txFrame, ← hf.txPos] at hmore
    rw [hf.emit, sendChar_of_more hsending hget hmore]

theorem independentOfEngine_id : IndependentOfEngine id :=
  ⟨fun _ => rfl, fun _ => rfl, fun _ => rfl, fun _ _ => rfl, fun _ => rfl⟩

theorem independentOfEngine_setErr (m : BitVec 5) : IndependentOfEngine (·.setErr m) :=
  ⟨fun _ => rfl, fun _ => rfl, fun _ => rfl, fun _ _ => rfl, fun _ => rfl⟩

theorem independentOfEngine_collect (b : Byte) : IndependentOfEngine (·.collect b) :=
  ⟨fun _ => rfl, fun _ => rfl, fun _ => rfl, fun _ _ => rfl, fun _ => rfl⟩

theorem independentOfEngine_closeFrame : IndependentOfEngine State.closeFrame :=
  ⟨fun _ => rfl, fun _ => rfl, fun _ => rfl, fun _ _ => rfl, fun _ => rfl⟩

theorem IndependentOfEngine.comp (hf : IndependentOfEngine f) (hg : IndependentOfEngine g) :
    IndependentOfEngine (fun s => f (g s)) where
  txState s := (hf.txState _).trans (hg.txState s)
  txFrame s := (hf.txFrame _).trans (hg.txFrame s)
  txPos s := (hf.txPos _).trans (hg.txPos s)
  emit s b := (congrArg f (hg.emit s b)).trans (hf.emit _ b)
  finishFrame s := (congrArg f (hg.finishFrame s)).trans (hf.finishFrame _)

/-- A choice between two such updates, made on what an engine step leaves as it was. -/
theorem IndependentOfEngine.ite {c : State → Prop} [DecidablePred c] (hf : IndependentOfEngine f)
    (hg : IndependentOfEngine g) (hemit : ∀ s b, c (s.emit b) ↔ c s) (hfinish : ∀ s, c s.finishFrame ↔ c s) :
    IndependentOfEngine (fun s => if c s then f s else g s) where
  txState s := by split; exacts [hf.txState s, hg.txState s]
  txFrame s := by split; exacts [hf.txFrame s, hg.txFrame s]
  txPos s := by split; exacts [hf.txPos s, hg.txPos s]
  emit s b := by simp only [hemit, hf.emit, hg.emit, apply_ite (State.emit · b)]
  finishFrame s := by simp only [hfinish, hf.finishFrame, hg.finishFrame, apply_ite State.finishFrame]

theorem independentOfEngine_store (b : Byte) : IndependentOfEngine (·.store b) :=
  .ite (independentOfEngine_setErr _)
    (.ite (independentOfEngine_setErr _) (independentOfEngine_collect b) (fun _ _ => .rfl) fun _ => .rfl)
    (fun _ _ => .rfl) fun _ => .rfl

theorem independentOfEngine_lineIn (b : Byte) (ok : Bool) : IndependentOfEngine (·.lineIn b ok) := by
  refine .ite ?_ independentOfEngine_id (fun _ _ => .rfl) fun _ => .rfl
  cases ok
  · exact (independentOfEngine_setErr _).comp (independentOfEngine_store b)
  · exact independentOfEngine_store b

theorem independentOfEngine_lineGap : IndependentOfEngine State.lineGap :=
  .ite independentOfEngine_closeFrame independentOfEngine_id (fun _ _ => .rfl) fun _ => .rfl

/-- An instruction whose meaning is an update independent of the engine commutes with the engine's step. -/
theorem txeSend_commutes {e : Instr} (hf : IndependentOfEngine f) (he : ∀ s, exec e s = .next (f s)) {x : Byte}
    (ht : exec (.txeSend x) s = .next t) (hu : exec e s = .next u) :
    ∃ v, exec e t = .next v ∧ exec (.txeSend x) u = .next v := by
  cases (he s).symm.trans hu
  exact ⟨f t, he t, hf.sendChar ht⟩

/-- Settles O56: the three receiver events are updates independent of the engine. -/
theorem transmitterAndReceiverStepsCommute : Obligations.TransmitterAndReceiverStepsCommute := by
  intro s t u x b e he ht hu
  obtain rfl | rfl | rfl := he
  · exact txeSend_commutes (independentOfEngine_lineIn b true) (fun _ => rfl) ht hu
  · exact txeSend_commutes (independentOfEngine_lineIn b false) (fun _ => rfl) ht hu
  · exact txeSend_commutes independentOfEngine_lineGap (fun _ => rfl) ht hu

end Sys2Proof.Proofs
end

section
/-! A built frame at a receiver (41_encoder.md R149): its characters are collected one line each and a gap closes it,
and STATUS then shows the four checks it passes. -/

namespace Sys2Proof.Proofs

open Sys2Proof.Config Sys2Proof.Machine

variable {s : State}

/-! Characters and gaps as lines (30_encoding.md R96). -/

theorem step_place_event (hin : s.resetIn = false) (e : BitVec 10) :
    step (s.place (.event e)) = exec (decodeEvent e) s := by
  rw [step_of_pending_decoded (s.place_resetIn _) (s.place_pending _) rfl, place_withPending hin]

theorem decodeEvent_char (b : Byte) : decodeEvent (eventWord 1#2 b) = .rxeChar b := by simp [decodeEvent]

theorem decodeEvent_gap (b : Byte) : decodeEvent (eventWord 3#2 b) = .rxeGap b := by simp [decodeEvent]

/-- An enabled receiver that is not `Ready` and has room collects a good character. -/
theorem lineIn_of_room (hen : s.rxEn = true) (hready : s.rxState ≠ .ready) (hroom : s.rxbuf.length < 262) (b : Byte) :
    s.lineIn b true = s.collect b := by
  have hstore : s.store b = s.collect b := by
    obtain ⟨hr | hfull, -⟩ | ⟨-, -, heq⟩ := s.store_cases b
    · exact absurd hr hready
    · exact absurd hfull hroom.ne
    · exact heq
  rw [State.lineIn, if_pos hen, if_pos rfl, hstore]

theorem runLines_char (hin : s.resetIn = false) (hen : s.rxEn = true) (hready : s.rxState ≠ .ready)
    (hroom : s.rxbuf.length < 262) (b : Byte) (rest : List Raw) :
    runLines s (.event (eventWord 1#2 b) :: rest) = runLines (s.collect b) rest := by
  simp only [runLines, step_place_event hin, decodeEvent_char, exec, execRxeChar, lineIn_of_room hen hready hroom]

theorem runLines_gap (hin : s.resetIn = false) (rest : List Raw) :
    runLines s (linePeerGap :: rest) = runLines s.lineGap rest := by
  simp only [runLines, linePeerGap, step_place_event hin, decodeEvent_gap, exec, execRxeGap]

/-- A receiver with room collects all the characters of a list. -/
theorem runLines_linesPeer (hin : s.resetIn = false) (hen : s.rxEn = true) (hready : s.rxState ≠ .ready)
    {bs : List Byte} (hroom : s.rxbuf.length + bs.length ≤ 262) (rest : List Raw) :
    runLines s (linesPeer bs ++ rest) = runLines (bs.foldl State.collect s) rest := by
  induction bs generalizing s with
  | nil => rfl
  | cons b bs ih =>
    rw [List.length_cons] at hroom
    have hroom' : (s.collect b).rxbuf.length + bs.length ≤ 262 := by
      rw [State.collect_rxbuf, List.length_append, List.length_singleton]
      omega
    calc runLines s (linesPeer (b :: bs) ++ rest)
      _ = runLines (s.collect b) (linesPeer bs ++ rest) := runLines_char hin hen hready (by omega) b _
      _ = runLines ((b :: bs).foldl State.collect s) rest := ih (s := s.collect b) hin hen (by simp) hroom'

theorem foldl_collect_cons (s : State) (b : Byte) (bs : List Byte) :
    (b :: bs).foldl State.collect s = { s with rxbuf := s.rxbuf ++ b :: bs, rxState := .collecting } := by
  induction bs generalizing s b with
  | nil => rfl
  | cons c bs ih =>
    rw [List.foldl_cons, ih, List.append_cons s.rxbuf b]
    rfl

/-- A frame that fits, delivered alone to an enabled, empty receiver and closed by a gap, is in the buffer whole. -/
theorem runLines_peerFrame (hin : s.resetIn = false) (hen : s.rxEn = true) (hidle : s.rxState = .idle)
    (hempty : s.rxbuf = []) {f : List Byte} (hne : f ≠ []) (hfits : f.length ≤ 262) :
    runLines s (linesPeer f ++ [linePeerGap]) = some { s with rxbuf := f, rxState := .ready } := by
  obtain ⟨b, bs, rfl⟩ := List.exists_cons_of_ne_nil hne
  have hroom : s.rxbuf.length + (b :: bs).length ≤ 262 := by rwa [hempty, List.length_nil, Nat.zero_add]
  rw [runLines_linesPeer hin hen (by simp [hidle]) hroom, foldl_collect_cons, hempty, List.nil_append,
    runLines_gap (by exact hin)]
  rfl

/-! STATUS (10_state.md R24). -/

theorem getElem_bitAt (b : Bool) {n k : Nat} (hk : k < 32) : (bitAt b n)[k] = (decide (k = n) && b) := by
  by_cases hlt : k < n
  · simp [bitAt, hlt, hlt.ne]
  · by_cases heq : k = n
    · subst heq
      simp [bitAt]
    · simp [bitAt, heq, show k - n ≠ 0 by omega]

/-- The receiver's bits of STATUS. -/
theorem statusValue_receiverBits (s : State) :
    s.statusValue.getLsbD 2 = s.rxReady ∧ s.statusValue.getLsbD 4 = s.rxCrcOk ∧
      s.statusValue.getLsbD 5 = s.rxSyncOk ∧ s.statusValue.getLsbD 6 = s.rxAddrOk ∧
      s.statusValue.getLsbD 7 = s.rxLenOk := by
  simp [State.statusValue, getElem_bitAt]

/-- A complete frame that the receiver's checks accept shows them all in STATUS. -/
theorem statusValue_of_frameAccepted (hready : s.rxState = .ready) (haccepted : frameAccepted s.rxbuf = true) :
    s.statusValue.getLsbD 2 = true ∧ s.statusValue.getLsbD 4 = true ∧ s.statusValue.getLsbD 5 = true ∧
      s.statusValue.getLsbD 6 = true ∧ s.statusValue.getLsbD 7 = true := by
  have hbit : s.rxReady = true := s.rxReady_eq_true.mpr hready
  simp only [frameAccepted, Bool.and_eq_true] at haccepted
  obtain ⟨⟨⟨hcrc, hsync⟩, haddr⟩, hlen⟩ := haccepted
  obtain ⟨h2, h4, h5, h6, h7⟩ := statusValue_receiverBits s
  rw [h2, h4, h5, h6, h7, State.rxCrcOk, State.rxSyncOk, State.rxAddrOk, State.rxLenOk, hbit, hcrc, hsync, haddr, hlen]
  exact ⟨rfl, rfl, rfl, rfl, rfl⟩

/-! The built frame. -/

/-- The last two bytes of a built frame are the checksum of what stands before them (41_encoder.md R149). -/
theorem crc16_frameBody_buildFrame (cmd : Byte) (p : List Byte) :
    crc16 (frameBody (buildFrame cmd p)) =
      halfOf ((buildFrame cmd p).getD ((buildFrame cmd p).length - 2) 0x00#8)
        ((buildFrame cmd p).getD ((buildFrame cmd p).length - 1) 0x00#8) := by
  have htwo : 2 ≤ (buildFrame cmd p).length := by rw [buildFrame_length]; omega
  rw [frameBody_buildFrame, ← frameCrcRecv_buildFrame, frameCrcRecv, if_pos htwo]

/-- Settles O36: the frame is collected whole, a receiver's checks accept it, and STATUS shows them. -/
theorem builtFrameValidatesAtAReceiver : Obligations.BuiltFrameValidatesAtAReceiver := by
  intro c p hp
  have hzero : crc16 (buildFrame c p) = 0x0000#16 := (frameCrcOk_iff.mp (frameCrcOk_buildFrame c p)).2
  refine ⟨crc16_frameBody_buildFrame c p, hzero, fun s hin hen hidle hempty => ?_⟩
  have hfits : (buildFrame c p).length ≤ 262 := by rw [buildFrame_length]; omega
  exact ⟨_, _, _, runLines_peerFrame hin hen hidle hempty (List.cons_ne_nil _ _) hfits, rfl, rfl, rfl, rfl,
    statusValue_of_frameAccepted rfl (frameAccepted_buildFrame c p)⟩

end Sys2Proof.Proofs
end

section
/-! The receiver's four checks (42_decoder.md R164, R170 to R172): each as a fact about the byte list, and what they say
of two frames run together. -/

namespace Sys2Proof.Proofs

open Sys2Proof.Config Sys2Proof.Machine

variable {f g : List Byte}

/-! The checksum's comparison. -/

theorem frameCrcOk_of_short (h : f.length < 2) : frameCrcOk f = false := by
  rw [Bool.eq_false_iff, ne_eq, frameCrcOk_iff]
  omega

theorem frameCrcOk_zero_zero : frameCrcOk [0x00#8, 0x00#8] = true :=
  frameCrcOk_iff.mpr ⟨le_rfl, by rw [crc16_zero_cons, crc16_zero_cons]; rfl⟩

/-- Settles O22: `frameCrcOk_iff`, with the length given. -/
theorem checksumTestIsZeroResidue : Obligations.ChecksumTestIsZeroResidue :=
  ⟨fun _ hlen => frameCrcOk_iff.trans (and_iff_right hlen), fun _ => frameCrcOk_of_short, frameCrcOk_zero_zero⟩

theorem frameCrcOk_iff_calc_eq_recv (h : 2 ≤ f.length) : frameCrcOk f = true ↔ frameCrcCalc f = frameCrcRecv f := by
  simp [frameCrcOk, h]

/-! SYNC, ADDR and LEN. -/

theorem frameSyncOk_iff : frameSyncOk f = true ↔ f[0]? = some sync := by rw [frameSyncOk, beq_iff_eq]

theorem frameAddrOk_iff : frameAddrOk f = true ↔ 2 ≤ f.length ∧ f[1]? = some addr := by
  rw [frameAddrOk, Bool.and_eq_true, decide_eq_true_iff, beq_iff_eq]

/-- R172 in numbers: a byte holds every count up to 250. -/
theorem frameLenOk_iff : frameLenOk f = true ↔ 6 ≤ f.length ∧
    ((f.length ≤ 250 ∧ (f.getD 2 0x00#8).toNat = f.length) ∨ (250 < f.length ∧ (f.getD 2 0x00#8).toNat = 0)) := by
  by_cases hsix : 6 ≤ f.length
  · have hget : f[2]? = some (f.getD 2 0x00#8) := by
      rw [List.getD_eq_getElem _ _ (by omega), List.getElem?_eq_getElem]
    have hcount : f.length ≤ 250 → (f.getD 2 0x00#8 = BitVec.ofNat 8 f.length ↔
        (f.getD 2 0x00#8).toNat = f.length) := fun hle => by
      rw [← BitVec.toNat_inj, BitVec.toNat_ofNat, Nat.mod_eq_of_lt (by omega)]
    have hzero : f.getD 2 0x00#8 = 0#8 ↔ (f.getD 2 0x00#8).toNat = 0 := BitVec.toNat_eq
    simp only [frameLenOk, hget, hsix, ← hzero, Bool.and_eq_true, Bool.or_eq_true, decide_eq_true_iff, beq_iff_eq,
      Option.some.injEq, true_and, and_congr_right_iff.mpr hcount]
  · simp [frameLenOk, hsix]

/-! Two frames run together. -/

theorem frameCrcOk_append (hf : frameCrcOk f = true) (hg : frameCrcOk g = true) : frameCrcOk (f ++ g) = true := by
  obtain ⟨hlen, hzero⟩ := frameCrcOk_iff.mp hf
  obtain ⟨-, hzero'⟩ := frameCrcOk_iff.mp hg
  refine frameCrcOk_iff.mpr ⟨?_, (crc16_append_of_eq_zero hzero g).trans hzero'⟩
  rw [List.length_append]
  omega

/-- The first byte is the first frame's. -/
theorem frameSyncOk_append (hf : frameSyncOk f = true) : frameSyncOk (f ++ g) = true := by
  rw [frameSyncOk_iff] at hf ⊢
  obtain ⟨hlt, -⟩ := List.getElem?_eq_some_iff.mp hf
  rw [List.getElem?_append_left hlt, hf]

/-- The second byte is the first frame's. -/
theorem frameAddrOk_append (hf : frameAddrOk f = true) : frameAddrOk (f ++ g) = true := by
  obtain ⟨hlen, haddr⟩ := frameAddrOk_iff.mp hf
  refine frameAddrOk_iff.mpr ⟨?_, (List.getElem?_append_left hlen).trans haddr⟩
  rw [List.length_append]
  omega

/-- The LEN byte of two frames run together is the first one's, which is right for the total only where both are above
250 bytes. -/
theorem frameLenOk_append_iff (hf : frameLenOk f = true) (hg : frameLenOk g = true) :
    frameLenOk (f ++ g) = true ↔ 250 < f.length := by
  obtain ⟨hsix, hlen⟩ := frameLenOk_iff.mp hf
  obtain ⟨hsix', -⟩ := frameLenOk_iff.mp hg
  rw [frameLenOk_iff, List.getD_append _ _ _ _ (by omega), List.length_append]
  omega

/-- Settles O41: the checksum by the residue, the other three because their bytes are the first frame's. -/
theorem framesRunTogetherAreCaughtByLenUpTo250 : Obligations.FramesRunTogetherAreCaughtByLenUpTo250 := by
  intro f g hf hg
  simp only [frameAccepted, Bool.and_eq_true] at hf hg
  obtain ⟨⟨⟨hcrc, hsync⟩, haddr⟩, hlen⟩ := hf
  obtain ⟨⟨⟨hcrc', -⟩, -⟩, hlen'⟩ := hg
  have hiff := frameLenOk_append_iff hlen hlen'
  exact ⟨frameCrcOk_append hcrc hcrc', frameSyncOk_append hsync, frameAddrOk_append haddr,
    fun hshort => Bool.eq_false_iff.mpr fun hok => hshort.not_gt (hiff.mp hok), hiff.mpr⟩

end Sys2Proof.Proofs
end

section
/-! What the registers show of the checks (42_decoder.md R170 to R173): those of the buffer's bytes while the receiver
is `Ready`, and 0 otherwise. -/

namespace Sys2Proof.Proofs

open Sys2Proof.Config Sys2Proof.Machine

variable {s : State} {f : List Byte}

/-! The two checksums. -/

theorem zeroExtend_halfOf (l h : Byte) :
    (halfOf l h).zeroExtend 32 = (l.zeroExtend 32 ||| (h.zeroExtend 32 <<< 8)) := by
  apply BitVec.eq_of_getLsbD_eq
  intro k hk
  rcases Nat.lt_or_ge k 8 with h8 | h8
  · simp [halfOf, h8, hk]
  · rcases Nat.lt_or_ge k 16 with h16 | h16
    · simp [halfOf, hk, h16]
    · have hclear : h.getLsbD (k - 8) = false := BitVec.getLsbD_of_ge h _ (by omega)
      simp [halfOf, hk, hclear]

theorem rxCrcCalcValue_of_ready (h : s.rxState = .ready) :
    s.rxCrcCalcValue = (frameCrcCalc s.rxbuf).zeroExtend 32 := by
  rw [State.rxCrcCalcValue, State.rxCrcCalc, if_pos (s.rxReady_eq_true.mpr h)]

theorem rxCrcRecvValue_of_ready (h : s.rxState = .ready) :
    s.rxCrcRecvValue = (frameCrcRecv s.rxbuf).zeroExtend 32 := by
  rw [State.rxCrcRecvValue, State.rxCrcRecv, if_pos (s.rxReady_eq_true.mpr h)]

/-- Extending to a register's width loses nothing of a checksum. -/
theorem rxCrcCalcValue_eq_recvValue_iff (h : s.rxState = .ready) :
    s.rxCrcCalcValue = s.rxCrcRecvValue ↔ frameCrcCalc s.rxbuf = frameCrcRecv s.rxbuf := by
  rw [rxCrcCalcValue_of_ready h, rxCrcRecvValue_of_ready h]
  exact ⟨fun heq => by simpa using congrArg (BitVec.setWidth 16) heq, congrArg _⟩

theorem frameCrcCalc_of_short (h : f.length < 2) : frameCrcCalc f = 0x0000#16 := by
  rw [frameCrcCalc, if_neg h.not_ge]

theorem frameCrcRecv_of_short (h : f.length < 2) : frameCrcRecv f = 0x0000#16 := by
  rw [frameCrcRecv, if_neg h.not_ge]

/-! The register values. -/

/-- The result bits of STATUS while the receiver is `Ready`. -/
theorem statusValue_resultBits_of_ready (h : s.rxState = .ready) :
    s.statusValue.getLsbD 4 = frameCrcOk s.rxbuf ∧ s.statusValue.getLsbD 5 = frameSyncOk s.rxbuf ∧
      s.statusValue.getLsbD 6 = frameAddrOk s.rxbuf ∧ s.statusValue.getLsbD 7 = frameLenOk s.rxbuf := by
  obtain ⟨-, h4, h5, h6, h7⟩ := statusValue_receiverBits s
  rw [h4, h5, h6, h7, State.rxCrcOk, State.rxSyncOk, State.rxAddrOk, State.rxLenOk, s.rxReady_eq_true.mpr h]
  exact ⟨rfl, rfl, rfl, rfl⟩

/-- R173: no result without a complete frame. -/
theorem results_of_not_ready (h : s.rxState ≠ .ready) :
    s.rxCrcCalcValue = 0#32 ∧ s.rxCrcRecvValue = 0#32 ∧ s.statusValue.getLsbD 4 = false ∧
      s.statusValue.getLsbD 5 = false ∧ s.statusValue.getLsbD 6 = false ∧ s.statusValue.getLsbD 7 = false := by
  have hready : s.rxReady = false := Bool.eq_false_iff.mpr fun hr => h (s.rxReady_eq_true.mp hr)
  obtain ⟨-, h4, h5, h6, h7⟩ := statusValue_receiverBits s
  rw [h4, h5, h6, h7, State.rxCrcCalcValue, State.rxCrcCalc, State.rxCrcRecvValue, State.rxCrcRecv, State.rxCrcOk,
    State.rxSyncOk, State.rxAddrOk, State.rxLenOk, hready]
  exact ⟨rfl, rfl, rfl, rfl, rfl, rfl⟩

/-- The checksum registers and RX_CRC_OK of a complete frame of two or more bytes. -/
theorem crcResults_of_ready (h : s.rxState = .ready) (hlen : 2 ≤ s.rxbuf.length) :
    s.rxCrcCalcValue = (crc16 (frameBody s.rxbuf)).zeroExtend 32 ∧
      s.rxCrcRecvValue = ((s.rxbuf.getD (s.rxbuf.length - 2) 0x00#8).zeroExtend 32 |||
        ((s.rxbuf.getD (s.rxbuf.length - 1) 0x00#8).zeroExtend 32 <<< 8)) ∧
      (s.statusValue.getLsbD 4 = true ↔ s.rxCrcCalcValue = s.rxCrcRecvValue) ∧
      (s.statusValue.getLsbD 4 = true ↔ crc16 s.rxbuf = 0x0000#16) := by
  obtain ⟨hcrc, -⟩ := statusValue_resultBits_of_ready h
  rw [hcrc]
  refine ⟨?_, ?_, ?_, frameCrcOk_iff.trans (and_iff_right hlen)⟩
  · rw [rxCrcCalcValue_of_ready h, frameCrcCalc, if_pos hlen]
  · rw [rxCrcRecvValue_of_ready h, frameCrcRecv, if_pos hlen, zeroExtend_halfOf]
  · rw [rxCrcCalcValue_eq_recvValue_iff h, frameCrcOk_iff_calc_eq_recv hlen]

/-- The same of a shorter one: all 0. -/
theorem crcResults_of_ready_short (h : s.rxState = .ready) (hlen : s.rxbuf.length < 2) :
    s.rxCrcCalcValue = 0#32 ∧ s.rxCrcRecvValue = 0#32 ∧ s.statusValue.getLsbD 4 = false := by
  obtain ⟨hcrc, -⟩ := statusValue_resultBits_of_ready h
  rw [hcrc, rxCrcCalcValue_of_ready h, rxCrcRecvValue_of_ready h, frameCrcCalc_of_short hlen,
    frameCrcRecv_of_short hlen]
  exact ⟨rfl, rfl, frameCrcOk_of_short hlen⟩

/-- Settles O40: the three reads answer their register's value, which in `Ready` is the buffer's checks. -/
theorem validationResultsOfAReadyFrame : Obligations.ValidationResultsOfAReadyFrame := by
  intro s
  refine ⟨s.rxCrcCalcValue, s.rxCrcRecvValue, s.statusValue, rfl, rfl, rfl, fun hready => ?_, results_of_not_ready,
    rfl, frameCrcOk_zero_zero⟩
  obtain ⟨-, hsync, haddr, hlen⟩ := statusValue_resultBits_of_ready hready
  rw [hsync, haddr, hlen]
  exact ⟨crcResults_of_ready hready, crcResults_of_ready_short hready, frameSyncOk_iff, frameAddrOk_iff,
    frameLenOk_iff⟩

end Sys2Proof.Proofs
end

section
/-! Characters and gaps at the receiver (42_decoder.md R160 to R163): what an event does in each state, the converse
directions of `State.store_cases`, `State.lineIn_cases` and `State.lineGap_cases`. -/

namespace Sys2Proof.Proofs

open Sys2Proof.Config Sys2Proof.Machine

variable {s : State}

/-! Gaps. -/

theorem lineGap_of_collecting (h : s.rxState = .collecting) : s.lineGap = s.closeFrame := by
  rw [State.lineGap, if_pos (s.rxActive_eq_true.mpr h)]

theorem lineGap_of_not_collecting (h : s.rxState ≠ .collecting) : s.lineGap = s := by
  rw [State.lineGap, if_neg fun hactive => h (s.rxActive_eq_true.mp hactive)]

theorem gapInForce_of_zero (h : s.rxGap = 0#8) : s.gapInForce = 1 := by
  rw [State.gapInForce, h]
  rfl

theorem gapInForce_of_ne_zero (h : s.rxGap ≠ 0#8) : s.gapInForce = s.rxGap.toNat := by
  have hpos : s.rxGap.toNat ≠ 0 := fun hzero => h (BitVec.eq_of_toNat_eq hzero)
  exact Nat.max_eq_left (Nat.one_le_iff_ne_zero.mpr hpos)

/-- Settles O39: a gap in each of the receiver's states, and the time that makes one. -/
theorem gapClosesACollectedFrame : Obligations.GapClosesACollectedFrame :=
  ⟨fun b => congrArg Decoded.instr (decodeEvent_gap b),
    fun _ _ => ⟨fun h => congrArg Host.Outcome.next (lineGap_of_collecting h),
      fun h => congrArg Host.Outcome.next (lineGap_of_not_collecting h)⟩,
    fun _ => ⟨gapInForce_of_zero, gapInForce_of_ne_zero⟩⟩

/-! Characters. -/

theorem decodeEvent_charFerr (b : Byte) : decodeEvent (eventWord 2#2 b) = .rxeCharFerr b := by simp [decodeEvent]

theorem lineIn_of_disabled (h : s.rxEn = false) (b : Byte) (ok : Bool) : s.lineIn b ok = s := by
  rw [State.lineIn, h, if_neg Bool.false_ne_true]

/-- Settles O37: a disabled receiver ignores a character, and a gap does not ask whether it is enabled. -/
theorem characterIsDiscardedWhileDisabled : Obligations.CharacterIsDiscardedWhileDisabled :=
  ⟨fun _ b hen => ⟨congrArg Host.Outcome.next (lineIn_of_disabled hen b true),
      congrArg Host.Outcome.next (lineIn_of_disabled hen b false)⟩,
    fun _ _ _ hcollecting => congrArg Host.Outcome.next (lineGap_of_collecting hcollecting)⟩

/-- What an enabled receiver does with a good character. -/
theorem exec_rxeChar_of_enabled (h : s.rxEn = true) (b : Byte) : exec (.rxeChar b) s = .next (s.store b) := by
  rw [exec, execRxeChar, State.lineIn, if_pos h, if_pos rfl]

/-- What it does with one of stop bit 0. -/
theorem exec_rxeCharFerr_of_enabled (h : s.rxEn = true) (b : Byte) :
    exec (.rxeCharFerr b) s = .next ((s.store b).setErr errRxFerr) := by
  rw [exec, execRxeCharFerr, State.lineIn, if_pos h, if_neg Bool.false_ne_true]

theorem store_of_no_room (h : s.rxState = .ready ∨ s.rxbuf.length = 262) (b : Byte) :
    s.store b = s.setErr errRxOvf := by
  obtain ⟨-, heq⟩ | ⟨hready, hfull, -⟩ := s.store_cases b
  · exact heq
  · exact absurd h (not_or.mpr ⟨hready, hfull⟩)

theorem store_of_room (hready : s.rxState ≠ .ready) (hfull : s.rxbuf.length ≠ 262) (b : Byte) :
    s.store b = s.collect b := by
  obtain ⟨h, -⟩ | ⟨-, -, heq⟩ := s.store_cases b
  · exact absurd h (not_or.mpr ⟨hready, hfull⟩)
  · exact heq

/-- Settles O38: both kinds of character store or drop alike, and the bad one sets RX_FERR after that. -/
theorem characterIsStoredOrDroppedWhileEnabled : Obligations.CharacterIsStoredOrDroppedWhileEnabled := by
  refine ⟨fun b => ⟨congrArg Decoded.instr (decodeEvent_char b),
    congrArg Decoded.instr (decodeEvent_charFerr b)⟩, fun s b hen => ?_⟩
  rw [exec_rxeChar_of_enabled hen, exec_rxeCharFerr_of_enabled hen]
  constructor
  · intro hnoRoom
    rw [store_of_no_room hnoRoom]
    exact ⟨rfl, rfl⟩
  · intro hready hfull
    rw [store_of_room hready hfull]
    exact ⟨rfl, rfl⟩

end Sys2Proof.Proofs
end

section
/-! The receiver's registers (42_decoder.md R174, R176, R177, R179): the count, the bytes and the release. -/

namespace Sys2Proof.Proofs

open Sys2Proof.Config Sys2Proof.Machine

variable {s : State}

/-! The count and the bytes. -/

theorem rxCountValue_eq_ofNat_mod (s : State) : s.rxCountValue = BitVec.ofNat 32 (s.rxbuf.length % 65536) :=
  count16_eq_ofNat_mod _

/-- A buffer within its capacity is counted without a wrap. -/
theorem rxCountValue_toNat (h : s.rxbuf.length ≤ 262) : s.rxCountValue.toNat = s.rxbuf.length := by
  rw [rxCountValue_eq_ofNat_mod, BitVec.toNat_ofNat]
  omega

theorem rxbufValue_of_getElem? {i : Nat} {b : Byte} (h : s.rxbuf[i]? = some b) :
    s.rxbufValue i = b.zeroExtend 32 := by
  rw [State.rxbufValue, List.getD_eq_getElem?_getD, h, Option.getD_some]

theorem rxbufValue_of_length_le {i : Nat} (h : s.rxbuf.length ≤ i) : s.rxbufValue i = 0#32 := by
  rw [State.rxbufValue, List.getD_eq_default _ _ h]
  rfl

/-- All three rows of the window read alike. -/
theorem exec_rxbufRd (s : State) (i : Nat) {v : Word} (h : s.rxbufValue i = v) :
    exec (.rxbufRd0 i) s = .next { s with busResp := .data v } ∧
      exec (.rxbufRd1 i) s = .next { s with busResp := .data v } ∧
      exec (.rxbufRd2 i) s = .next { s with busResp := .data v } := by
  subst h
  exact ⟨rfl, rfl, rfl⟩

/-- Settles O42: the register map's words, and the values of the count and of a byte within it and past it. -/
theorem receiverRegisterReads : Obligations.ReceiverRegisterReads := by
  refine ⟨decode_readWord .rxCount rfl, fun s => ?_, fun s ⟨_, hfits, _⟩ => ?_,
    fun i hi => decode_readWord (.rxbuf i) (decide_eq_true hi), fun s i => ⟨fun b hb => ?_, fun hpast => ?_⟩⟩
  · rw [← rxCountValue_eq_ofNat_mod]
    rfl
  · exact ⟨s.rxCountValue, rfl, rxCountValue_toNat hfits, (rxCountValue_toNat hfits).trans_le hfits⟩
  · exact exec_rxbufRd s i (rxbufValue_of_getElem? hb)
  · exact exec_rxbufRd s i (rxbufValue_of_length_le hpast)

/-! The release. -/

theorem decode_rxRelease {d : Word} (h : d.getLsbD 0 = true) :
    decode (writeWord .rxCtrl d) = .instr (.rxRelease d) := by
  rw [decode_writeWord .rxCtrl d rfl, decodeWrite, decodeRxCtrlWrite, releaseBit, if_pos h]

theorem decode_rxCtrlNop {d : Word} (h : d.getLsbD 0 = false) :
    decode (writeWord .rxCtrl d) = .instr (.rxCtrlNop d) := by
  rw [decode_writeWord .rxCtrl d rfl, decodeWrite, decodeRxCtrlWrite, releaseBit, h, if_neg Bool.false_ne_true]

theorem bitAt_and_of_clear (b : Bool) {n : Nat} {m : Word} (h : m.getLsbD n = false) : bitAt b n &&& m = 0#32 := by
  apply BitVec.eq_of_getElem_eq
  intro k hk
  rw [BitVec.getElem_and, getElem_bitAt b hk]
  by_cases hkn : k = n
  · subst hkn
    simp [← BitVec.getLsbD_eq_getElem, h]
  · simp [hkn]

/-- An idle receiver's bits 2 to 7 of STATUS are clear, and the other four stand outside them. -/
theorem statusValue_and_receiverBits_of_idle (h : s.rxState = .idle) : s.statusValue &&& 0xFC#32 = 0#32 := by
  have hready : s.rxReady = false := by rw [State.rxReady, h]; rfl
  have hactive : s.rxActive = false := by rw [State.rxActive, h]; rfl
  simp (disch := decide) only [State.statusValue, State.rxCrcOk, State.rxSyncOk, State.rxAddrOk, State.rxLenOk,
    hready, hactive, Bool.false_and, bitAt_false, BitVec.or_zero, BitVec.and_or_distrib_right, bitAt_and_of_clear]

/-- Settles O43: the register map's words by DATA[0], each meaning's whole next state, and STATUS of an idle
receiver. -/
theorem releaseDiscardsTheFrame : Obligations.ReleaseDiscardsTheFrame :=
  ⟨fun _ => decode_rxRelease, fun _ => decode_rxCtrlNop, decode_readWord .rxCtrl rfl,
    fun _ _ => ⟨rfl, statusValue_and_receiverBits_of_idle rfl, rfl, rfl⟩⟩

end Sys2Proof.Proofs
end

section
/-! The control registers (43_control.md R192 to R201): what a `CTRL` write marks, every bit of STATUS, and the fields
of the other reads and writes. -/

namespace Sys2Proof.Proofs

open Sys2Proof.Config Sys2Proof.Machine

/-! `CTRL` writes (R193). -/

theorem decode_ctrlWr {d : Word} (h : d.getLsbD 31 = false) : decode (writeWord .ctrl d) = .instr (.ctrlWr d) := by
  rw [decode_writeWord .ctrl d rfl, decodeWrite, decodeCtrlWrite, srstBit, h, if_neg Bool.false_ne_true]

theorem decode_ctrlSrst {d : Word} (h : d.getLsbD 31 = true) : decode (writeWord .ctrl d) = .instr (.ctrlSrst d) := by
  rw [decode_writeWord .ctrl d rfl, decodeWrite, decodeCtrlWrite, srstBit, if_pos h]

theorem inFlight_eq_true (s : State) : s.inFlight = true ↔ s.txState = .sending ∨ s.rxState = .collecting := by
  rw [State.inFlight, Bool.or_eq_true, s.txBusy_eq_true, s.rxActive_eq_true]

/-- Only `faulted` may be changed, and never from 1 to 0. -/
theorem baudHazard_eq (s : State) (sel : Bool) :
    s.baudHazard sel = { s with faulted := s.faulted || (sel != s.baudSel && s.inFlight) } := by
  rw [State.baudHazard]
  split
  case isTrue h => rw [h, Bool.or_true]; rfl
  case isFalse h => rw [Bool.eq_false_iff.mpr h, Bool.or_false]

theorem exec_ctrlWr (s : State) (d : Word) :
    exec (.ctrlWr d) s = .next { s with
      rxEn := d.getLsbD 0, baudSel := d.getLsbD 1,
      faulted := s.faulted || (d.getLsbD 1 != s.baudSel && s.inFlight), busResp := .done } := by
  rw [exec, execCtrlWr, baudHazard_eq]
  rfl

/-- Settles O44: the register map's words by DATA[31], and the write's whole next state. -/
theorem ctrlWriteSetsEnableAndRate : Obligations.CtrlWriteSetsEnableAndRate := by
  refine ⟨fun _ => decode_ctrlWr, fun _ => decode_ctrlSrst, fun s d => ⟨_, exec_ctrlWr s d, ?_⟩⟩
  rw [Bool.or_eq_true, Bool.and_eq_true, bne_iff_ne, inFlight_eq_true]

/-! STATUS reads (R194). -/

theorem errAny_eq_true (s : State) : s.errAny = true ↔ s.err ≠ 0#5 := bne_iff_ne

/-- The interrupt level (60_exceptions.md R250). -/
theorem irq_eq_true (s : State) :
    s.irq = true ↔ (s.txDone = true ∧ s.ie.getLsbD 0 = true) ∨ (s.rxState = .ready ∧ s.ie.getLsbD 1 = true) ∨
      (s.err ≠ 0#5 ∧ s.ie.getLsbD 2 = true) := by
  simp only [State.irq, State.txDoneIe, State.rxReadyIe, State.errIe, Bool.or_eq_true, Bool.and_eq_true,
    s.rxReady_eq_true, errAny_eq_true, or_assoc]

theorem rxCrcOk_eq_true (s : State) : s.rxCrcOk = true ↔ s.rxState = .ready ∧ frameCrcOk s.rxbuf = true := by
  rw [State.rxCrcOk, Bool.and_eq_true, s.rxReady_eq_true]

theorem rxSyncOk_eq_true (s : State) : s.rxSyncOk = true ↔ s.rxState = .ready ∧ s.rxbuf[0]? = some sync := by
  rw [State.rxSyncOk, Bool.and_eq_true, s.rxReady_eq_true, frameSyncOk_iff]

/-- A second byte that is ADDR implies the length of two that R171 asks for. -/
theorem rxAddrOk_eq_true (s : State) : s.rxAddrOk = true ↔ s.rxState = .ready ∧ s.rxbuf[1]? = some addr := by
  have hlength : s.rxbuf[1]? = some addr → 2 ≤ s.rxbuf.length := fun h => (List.getElem?_eq_some_iff.mp h).1
  rw [State.rxAddrOk, Bool.and_eq_true, s.rxReady_eq_true, frameAddrOk_iff, and_iff_right_of_imp hlength]

theorem rxLenOk_eq_true (s : State) : s.rxLenOk = true ↔ s.rxState = .ready ∧ frameLenOk s.rxbuf = true := by
  rw [State.rxLenOk, Bool.and_eq_true, s.rxReady_eq_true]

/-- The bits of STATUS beside `statusValue_receiverBits`. -/
theorem statusValue_engineBits (s : State) :
    s.statusValue.getLsbD 0 = s.txBusy ∧ s.statusValue.getLsbD 1 = s.txDone ∧
      s.statusValue.getLsbD 3 = s.rxActive ∧ s.statusValue.getLsbD 8 = s.errAny ∧
      s.statusValue.getLsbD 9 = s.irq := by
  simp [State.statusValue, getElem_bitAt]

theorem ushiftRight_eq_zero_of_inside {v m : Word} {n : Nat} (h : Inside v m) (hm : m >>> n = 0#32) :
    v >>> n = 0#32 := by
  apply BitVec.eq_of_getLsbD_eq
  intro k _
  rw [BitVec.getLsbD_ushiftRight, BitVec.getLsbD_zero, Bool.eq_false_iff]
  intro hbit
  have hmask : m.getLsbD (n + k) = true := inside_iff_bits.mp h (n + k) (BitVec.lt_of_getLsbD hbit) hbit
  rw [← BitVec.getLsbD_ushiftRight, hm, BitVec.getLsbD_zero] at hmask
  exact Bool.false_ne_true hmask

/-- Nothing stands above the ten bits of the register map. -/
theorem statusValue_ushiftRight_ten (s : State) : s.statusValue >>> 10 = 0#32 :=
  ushiftRight_eq_zero_of_inside (regValue_inside_readMask s .status) rfl

theorem not_rxReady_and_rxActive (s : State) : ¬ (s.rxReady = true ∧ s.rxActive = true) := by
  rw [s.rxReady_eq_true, s.rxActive_eq_true]
  rintro ⟨hready, hcollecting⟩
  cases hready.symm.trans hcollecting

/-- R173 for STATUS: no result bit without RX_READY. -/
theorem statusValue_resultBits_of_rxReady_eq_false {s : State} (h : s.rxReady = false) :
    s.statusValue.getLsbD 4 = false ∧ s.statusValue.getLsbD 5 = false ∧ s.statusValue.getLsbD 6 = false ∧
      s.statusValue.getLsbD 7 = false := by
  have hstate : s.rxState ≠ .ready := fun hready => Bool.eq_false_iff.mp h (s.rxReady_eq_true.mpr hready)
  obtain ⟨-, -, hbits⟩ := results_of_not_ready hstate
  exact hbits

/-- Settles O45: each bit is its flag, and each flag is its condition on the state. -/
theorem statusReadShowsEveryBit : Obligations.StatusReadShowsEveryBit := by
  refine ⟨decode_readWord .status rfl, fun s => ⟨s.statusValue, rfl, ?_⟩⟩
  obtain ⟨hbusy, hdone, hactive, herr, hirq⟩ := statusValue_engineBits s
  obtain ⟨hready, hcrc, hsync, haddr, hlen⟩ := statusValue_receiverBits s
  rw [hready]
  refine ⟨?_, hdone, s.rxReady_eq_true, ?_, ?_, ?_, ?_, ?_, ?_, ?_, statusValue_ushiftRight_ten s, ?_,
    statusValue_resultBits_of_rxReady_eq_false⟩
  · rw [hbusy, s.txBusy_eq_true]
  · rw [hactive, s.rxActive_eq_true]
  · rw [hcrc, rxCrcOk_eq_true]
  · rw [hsync, rxSyncOk_eq_true]
  · rw [haddr, rxAddrOk_eq_true]
  · rw [hlen, rxLenOk_eq_true]
  · rw [herr, errAny_eq_true]
  · rw [hirq, irq_eq_true]
  · rw [hactive]
    exact not_rxReady_and_rxActive s

/-! The other reads (R192, R196, R198, R200). -/

theorem ctrlValue_eq_ofNat (s : State) : s.ctrlValue = BitVec.ofNat 32 (s.rxEn.toNat + 2 * s.baudSel.toNat) := by
  rw [State.ctrlValue]
  cases s.rxEn <;> cases s.baudSel <;> rfl

/-- Settles O46: the register map's words, and each register's value as a number. -/
theorem controlRegisterReads : Obligations.ControlRegisterReads := by
  refine ⟨decode_readWord .ctrl rfl, decode_readWord .ie rfl, decode_readWord .err rfl, decode_readWord .rxGap rfl,
    fun s => ?_⟩
  rw [← ctrlValue_eq_ofNat, BitVec.ofNat_toNat, BitVec.ofNat_toNat, BitVec.ofNat_toNat]
  exact ⟨rfl, rfl, rfl, rfl⟩

/-! The other writes (R195, R197, R199, R201). -/

/-- Write 1 to clear: a 0 keeps `tx_done`. -/
theorem exec_statusWr (s : State) (d : Word) :
    exec (.statusWr d) s = .next { s with txDone := s.txDone && !d.getLsbD 1, busResp := .done } := by
  rw [exec, execStatusWr, dataTxDone]
  split
  case isTrue h => rw [h, Bool.not_true, Bool.and_false]; rfl
  case isFalse h => rw [Bool.eq_false_iff.mpr h, Bool.not_false, Bool.and_true]; rfl

/-- Settles O47: the register map's words; three of the writes are a field of the data, and STATUS is
`exec_statusWr`. -/
theorem controlRegisterWrites : Obligations.ControlRegisterWrites :=
  ⟨fun d => decode_writeWord .status d rfl, fun d => decode_writeWord .ie d rfl, fun d => decode_writeWord .err d rfl,
    fun d => decode_writeWord .rxGap d rfl, fun s d => ⟨exec_statusWr s d, rfl, rfl, rfl⟩⟩

end Sys2Proof.Proofs
end

section
/-! The command frames (44_protocol_commands.md R220 to R230): a payload that fits is queued whole, so SEND from idle
with an empty queue latches the frame of its code and payload; and the frames the spec prints, checksum by checksum. -/

namespace Sys2Proof.Proofs

open Sys2Proof.Config Sys2Proof.Machine

variable {s : State} {cmd : Byte} {p : List Byte} {i : Instr}

/-! SEND from idle (30_encoding.md R97). -/

/-- Pushes that fit in the queue are all appended, in order. -/
theorem pushAll_of_room {bs : List Byte} (hroom : s.txq.length + bs.length ≤ 256) :
    s.pushAll bs = { s with txq := s.txq ++ bs } := by
  induction bs generalizing s with
  | nil => rw [List.append_nil]; rfl
  | cons b bs ih =>
    rw [List.length_cons] at hroom
    have hpush : s.push b = s.enqueue b := if_pos (show s.txq.length < 256 by omega)
    have hrest : (s.enqueue b).txq.length + bs.length ≤ 256 := by
      rw [State.enqueue_txq, List.length_append, List.length_singleton]
      omega
    calc s.pushAll (b :: bs)
      _ = (s.enqueue b).pushAll bs := by rw [State.pushAll, hpush]
      _ = { s with txq := (s.txq ++ [b]) ++ bs } := ih hrest
      _ = { s with txq := s.txq ++ b :: bs } := by rw [List.append_assoc, List.singleton_append]

theorem startEncode_of_idle (h : s.txState = .idle) :
    s.startEncode = (s.latch (buildFrame s.txCmd s.txq)).emptyQueue :=
  unlessBusy_of_idle h _

/-- A payload that fits, queued by itself, is the payload of the frame that SEND latches. -/
theorem sendCommand_writeDone_of_idle_of_nil (hidle : s.txState = .idle) (hqueue : s.txq = [])
    (hfits : p.length ≤ 256) : (s.sendCommand cmd p).writeDone = .next
      { s with
        txCmd := cmd, txFrame := buildFrame cmd p, txPos := 0, txState := .sending, txq := [], txDone := false,
        txLastCrc := crc16 ([0x02#8, 0x03#8, lenByte p.length, cmd] ++ p),
        txLastLen := lenByte p.length, txLastTotal := BitVec.ofNat 16 (p.length + 6), busResp := .done } := by
  have hpushed : (s.setCmd cmd).pushAll p = { s with txCmd := cmd, txq := p } := by
    rw [pushAll_of_room (by simpa [hqueue] using hfits), State.setCmd_txq, hqueue]
    rfl
  have hstate : ((s.setCmd cmd).pushAll p).txState = .idle := by simpa using hidle
  rw [State.sendCommand, startEncode_of_idle hstate, hpushed, latch_buildFrame, frameHead_eq_append]
  rfl

/-- Without payload ACK and NAK are the `TX_GO` operations of their names (log 10). -/
theorem exec_cmdAck_nil (s : State) (d : Word) : exec (.cmdAck []) s = exec (.goAck d) s := rfl

theorem exec_cmdNak_nil (s : State) (d : Word) : exec (.cmdNak []) s = exec (.goNak d) s := rfl

/-- Settles O54: the meaning of a command is SEND of the code its encoding carries, ACK and NAK only with a payload. -/
theorem commandLatchesExactlyItsFrame : Obligations.CommandLatchesExactlyItsFrame := by
  constructor
  · intro i code p hi s hidle hqueue hfits
    have hsend : encode i = .frame (buildFrame code p) ∧ exec i s = (s.sendCommand code p).writeDone := by
      obtain ⟨rfl, rfl⟩ | ⟨rfl, rfl⟩ | ⟨rfl, rfl⟩ | ⟨rfl, rfl⟩ | ⟨rfl, rfl⟩ | ⟨rfl, rfl⟩ | ⟨rfl, rfl⟩ |
        ⟨rfl, rfl⟩ | ⟨rfl, rfl⟩ | ⟨rfl, rfl, hp⟩ | ⟨rfl, rfl, hp⟩ := hi
      iterate 9 exact ⟨rfl, rfl⟩
      · exact ⟨rfl, exec_cmdAck_of_ne_nil hp s⟩
      · exact ⟨rfl, exec_cmdNak_of_ne_nil hp s⟩
    obtain ⟨hencode, hexec⟩ := hsend
    exact ⟨hencode, hexec.trans (sendCommand_writeDone_of_idle_of_nil hidle hqueue hfits)⟩
  · intro s hidle
    rw [exec_cmdAck_nil s 0#32, exec_cmdNak_nil s 0#32]
    exact ⟨exec_goAck_of_idle hidle _, exec_goNak_of_idle hidle _⟩

/-! The frames written out. -/

theorem buildFrame_of_crc16 {c : Half} (hcrc : crc16 (frameHead cmd p) = c) :
    buildFrame cmd p = frameHead cmd p ++ [lo c, hi c] := by
  rw [buildFrame, checksumBytes, hcrc]

theorem crcFold_cons_of_step {c c' : Half} {b : Byte} (hstep : crcStep c b = c') (bs : List Byte) :
    crcFold c (b :: bs) = crcFold c' bs := by
  rw [crcFold, hstep]

/-- Every frame begins with SYNC and ADDR. -/
theorem crcFold_sync_addr (bs : List Byte) : crcFold crcInit (sync :: addr :: bs) = crcFold 0x012B#16 bs := calc
  crcFold crcInit (sync :: addr :: bs)
  _ = crcFold 0x2312#16 (addr :: bs) := crcFold_cons_of_step (by decide) _
  _ = crcFold 0x012B#16 bs := crcFold_cons_of_step (by decide) _

/-- The three zero bytes of R225. -/
theorem crc16_setSecurityHead : crc16 (frameHead 0x32#8 [0x00#8, 0x00#8, 0x00#8]) = 0x1F26#16 := calc
  crc16 (frameHead 0x32#8 [0x00#8, 0x00#8, 0x00#8])
  _ = crcFold 0x012B#16 [0x09#8, 0x32#8, 0x00#8, 0x00#8, 0x00#8] := crcFold_sync_addr _
  _ = crcFold 0x0211#16 [0x32#8, 0x00#8, 0x00#8, 0x00#8] := crcFold_cons_of_step (by decide) _
  _ = crcFold 0x139B#16 [0x00#8, 0x00#8, 0x00#8] := crcFold_cons_of_step (by decide) _
  _ = crcFold 0x2A49#16 [0x00#8, 0x00#8] := crcFold_cons_of_step (by decide) _
  _ = crcFold 0xDFEF#16 [0x00#8] := crcFold_cons_of_step (by decide) _
  _ = 0x1F26#16 := crcFold_cons_of_step (by decide) _

/-- The all-ones bitmap of R226. -/
theorem crc16_enableBillTypesHead :
    crc16 (frameHead 0x34#8 [0xFF#8, 0xFF#8, 0xFF#8, 0xFF#8, 0xFF#8, 0xFF#8]) = 0xF7FE#16 := calc
  crc16 (frameHead 0x34#8 [0xFF#8, 0xFF#8, 0xFF#8, 0xFF#8, 0xFF#8, 0xFF#8])
  _ = crcFold 0x012B#16 [0x0C#8, 0x34#8, 0xFF#8, 0xFF#8, 0xFF#8, 0xFF#8, 0xFF#8, 0xFF#8] := crcFold_sync_addr _
  _ = crcFold 0x55BC#16 [0x34#8, 0xFF#8, 0xFF#8, 0xFF#8, 0xFF#8, 0xFF#8, 0xFF#8] := crcFold_cons_of_step (by decide) _
  _ = crcFold 0x0815#16 [0xFF#8, 0xFF#8, 0xFF#8, 0xFF#8, 0xFF#8, 0xFF#8] := crcFold_cons_of_step (by decide) _
  _ = crcFold 0x485C#16 [0xFF#8, 0xFF#8, 0xFF#8, 0xFF#8, 0xFF#8] := crcFold_cons_of_step (by decide) _
  _ = crcFold 0x97D9#16 [0xFF#8, 0xFF#8, 0xFF#8, 0xFF#8] := crcFold_cons_of_step (by decide) _
  _ = crcFold 0x44A3#16 [0xFF#8, 0xFF#8, 0xFF#8] := crcFold_cons_of_step (by decide) _
  _ = crcFold 0x98AD#16 [0xFF#8, 0xFF#8] := crcFold_cons_of_step (by decide) _
  _ = crcFold 0x710F#16 [0xFF#8] := crcFold_cons_of_step (by decide) _
  _ = 0xF7FE#16 := crcFold_cons_of_step (by decide) _

/-- A command without payload, by the CRC step of its code. -/
theorem buildFrame_nil_of_crcStep {c : Half} (hstep : crcStep 0xFAE6#16 cmd = c) :
    buildFrame cmd [] = [0x02#8, 0x03#8, 0x06#8, cmd, lo c, hi c] := by
  rw [buildFrame_nil, hstep]

/-- A well-formed command's encoding, with its frame's bytes given, and the round trip of O1. -/
theorem encode_eq_and_decode_eq {f bytes : List Byte} (hencode : encode i = .frame f) (hwf : i.wf = true)
    (hf : f = bytes) : encode i = .frame bytes ∧ decode (.frame bytes) = .instr i := by
  subst hf
  exact ⟨hencode, hencode ▸ decodeOfEncodeIsTheInstruction i hwf⟩

/-- Settles O6: each frame is the one its code and payload build, and a command's encoding decodes to it. -/
theorem commandFramesWrittenOut : Obligations.CommandFramesWrittenOut := by
  refine ⟨?ack, ?nak, ?poll, ?reset, ?getStatus, ?setSecurity, ?enableBillTypes, ?stack, ?returnBill, ?identification,
    ?hold⟩
  case ack => exact encode_eq_and_decode_eq rfl rfl buildFrame_ack
  case nak => exact encode_eq_and_decode_eq rfl rfl buildFrame_nak
  case poll => exact encode_eq_and_decode_eq rfl rfl buildFrame_poll
  case reset => exact encode_eq_and_decode_eq rfl rfl (buildFrame_nil_of_crcStep (c := 0xB341#16) (by decide))
  case getStatus => exact encode_eq_and_decode_eq rfl rfl (buildFrame_nil_of_crcStep (c := 0xA2C8#16) (by decide))
  case setSecurity => exact encode_eq_and_decode_eq rfl rfl (buildFrame_of_crc16 crc16_setSecurityHead)
  case enableBillTypes => exact encode_eq_and_decode_eq rfl rfl (buildFrame_of_crc16 crc16_enableBillTypesHead)
  case stack => exact encode_eq_and_decode_eq rfl rfl (buildFrame_nil_of_crcStep (c := 0xE4EC#16) (by decide))
  case returnBill => exact encode_eq_and_decode_eq rfl rfl (buildFrame_nil_of_crcStep (c := 0xD677#16) (by decide))
  case identification => exact encode_eq_and_decode_eq rfl rfl (buildFrame_nil_of_crcStep (c := 0xC7FE#16) (by decide))
  case hold => exact encode_eq_and_decode_eq rfl rfl (buildFrame_nil_of_crcStep (c := 0x3F09#16) (by decide))

end Sys2Proof.Proofs
end

section
/-! `faulted` (60_exceptions.md R247): of all instructions only a `CTRL` write can change it, and that write only sets
it; the reset input and a block that waits keep it. -/

namespace Sys2Proof.Proofs

open Sys2Proof.Config Sys2Proof.Machine

variable {s t u : State} {i : Instr}

/-! The shared operations. -/

@[simp] theorem push_faulted (s : State) (b : Byte) : (s.push b).faulted = s.faulted := by
  obtain ⟨-, heq⟩ | ⟨-, heq⟩ := s.push_cases b <;> rw [heq] <;> rfl

@[simp] theorem pushAll_faulted (s : State) (bs : List Byte) : (s.pushAll bs).faulted = s.faulted := by
  induction bs generalizing s with
  | nil => rfl
  | cons b bs ih => exact (ih (s.push b)).trans (push_faulted s b)

theorem unlessBusy_faulted (hu : u.faulted = s.faulted) : (s.unlessBusy u).faulted = s.faulted := by
  obtain ⟨-, heq⟩ | ⟨-, heq⟩ := s.unlessBusy_cases u <;> rw [heq]
  · exact hu
  · rfl

theorem startEncode_faulted (s : State) : s.startEncode.faulted = s.faulted := unlessBusy_faulted rfl

theorem sendCommand_faulted (s : State) (cmd : Byte) (p : List Byte) :
    (s.sendCommand cmd p).faulted = s.faulted :=
  (startEncode_faulted _).trans (pushAll_faulted (s.setCmd cmd) p)

theorem sendChar_faulted (h : s.sendChar = .next t) : t.faulted = s.faulted := by
  obtain ⟨-, rfl⟩ | ⟨b, -, -, ⟨-, rfl⟩ | ⟨-, rfl⟩⟩ := s.sendChar_cases h <;> rfl

@[simp] theorem store_faulted (s : State) (b : Byte) : (s.store b).faulted = s.faulted := by
  obtain ⟨-, heq⟩ | ⟨-, -, heq⟩ := s.store_cases b <;> rw [heq] <;> rfl

@[simp] theorem lineIn_faulted (s : State) (b : Byte) (ok : Bool) : (s.lineIn b ok).faulted = s.faulted := by
  obtain ⟨-, heq⟩ | ⟨-, -, heq⟩ | ⟨-, -, heq⟩ := s.lineIn_cases b ok <;> simp [heq]

@[simp] theorem lineGap_faulted (s : State) : s.lineGap.faulted = s.faulted := by
  obtain ⟨-, heq⟩ | ⟨-, heq⟩ := s.lineGap_cases <;> simp [heq]

/-! Instructions and steps. -/

theorem exec_faulted_of_ne_ctrlWr (hi : ∀ d, i ≠ .ctrlWr d) (h : exec i s = .next t) : t.faulted = s.faulted := by
  cases i
  case ctrlWr d => exact absurd rfl (hi d)
  case statusWr d => cases h; split <;> rfl
  case txDataWr d => cases h; exact push_faulted s _
  case goEncode d => cases h; exact startEncode_faulted s
  case goAck d | goNak d => cases h; exact unlessBusy_faulted rfl
  case txeSend x => exact sendChar_faulted h
  case rxeChar b => cases h; exact lineIn_faulted s b true
  case rxeCharFerr b => cases h; exact lineIn_faulted s b false
  case rxeGap x => cases h; exact lineGap_faulted s
  case cmdAck p | cmdNak p =>
    cases p with
    | nil => cases h; exact unlessBusy_faulted rfl
    | cons b bs => cases h; exact sendCommand_faulted s _ _
  case cmdPoll | cmdReset | cmdGetStatus | cmdSetSecurity | cmdEnableBillTypes | cmdStack | cmdReturn |
      cmdIdentification | cmdHold => cases h; exact sendCommand_faulted s _ _
  -- Reads, ignored writes, settings, the soft reset, the other operations and bus errors.
  all_goals cases h; rfl

/-- A `CTRL` write that changes the line rate while a character moves on the line (43_control.md R193,
70_reset_and_hazards.md R279). -/
def ChangesRateInFlight (s : State) (i : Instr) : Prop :=
  ∃ d : Word, i = .ctrlWr d ∧ d.getLsbD 1 ≠ s.baudSel ∧ (s.txState = .sending ∨ s.rxState = .collecting)

/-- The rule of `faulted` for every instruction: O44 for a `CTRL` write, and no change by any other. -/
theorem exec_faulted_iff (h : exec i s = .next t) :
    t.faulted = true ↔ s.faulted = true ∨ ChangesRateInFlight s i := by
  obtain ⟨-, -, hctrl⟩ := ctrlWriteSetsEnableAndRate
  by_cases hi : ∃ d, i = .ctrlWr d
  · obtain ⟨d, rfl⟩ := hi
    obtain ⟨f, hexec, hf⟩ := hctrl s d
    cases hexec.symm.trans h
    simpa [ChangesRateInFlight] using hf
  · have hno : ¬ ChangesRateInFlight s i := fun ⟨d, hd, _⟩ => hi ⟨d, hd⟩
    rw [exec_faulted_of_ne_ctrlWr (fun d hd => hi ⟨d, hd⟩) h, or_iff_left hno]

/-- Settles O18: one direction of the rule of `faulted`. -/
theorem onlyARateChangeInFlightFaults : Obligations.OnlyARateChangeInFlightFaults := fun _ _ _ h =>
  (exec_faulted_iff h).mp

/-- Settles O17: a reset by the input and a waiting block keep the bit, and an instruction never clears it. -/
theorem faultedIsNeverCleared : Obligations.FaultedIsNeverCleared := by
  intro s t hs hstep
  obtain ⟨level, rest, rfl⟩ | ⟨-, rest, rfl⟩ | ⟨-, i, rest, hexec⟩ := step_next_cases hstep
  · exact hs
  · exact hs
  · exact (exec_faulted_iff hexec).mpr (.inl hs)

end Sys2Proof.Proofs
end

section
/-! The interrupt level (60_exceptions.md R250, R251): it is low where no source stands and where every source is
masked, and the writes of R251 and of `IE` lead there. -/

namespace Sys2Proof.Proofs

open Sys2Proof.Config Sys2Proof.Machine

variable {s : State}

theorem irq_eq_false_of_no_source (hdone : s.txDone = false) (hready : s.rxState ≠ .ready) (herr : s.err = 0#5) :
    s.irq = false := by
  rw [Bool.eq_false_iff, ne_eq, irq_eq_true]
  simp [hdone, hready, herr]

theorem irq_eq_false_of_masked (h : s.ie = 0#3) : s.irq = false := by
  rw [Bool.eq_false_iff, ne_eq, irq_eq_true]
  simp [h]

/-- Writing 1 to every bit clears all of `ERR`. -/
theorem clearErr_all (s : State) : (s.clearErr (dataErr 0x1F#32)).err = 0#5 := by
  have hmask : ~~~dataErr 0x1F#32 = 0#5 := by decide
  rw [State.clearErr_err, hmask, BitVec.and_zero]

/-- The state that the three writes of R251 leave. -/
def served (s : State) : State :=
  (((s.clearTxDone.respond .done).release.respond .done).clearErr (dataErr 0x1F#32)).respond .done

theorem irq_served (s : State) : (served s).irq = false :=
  irq_eq_false_of_no_source rfl (fun h => nomatch h) (clearErr_all _)

theorem runLines_serve (hin : s.resetIn = false) :
    runLines s [writeWord .status 0x2#32, writeWord .rxCtrl 0x1#32, writeWord .err 0x1F#32] =
      some (served s) := calc
  runLines s [writeWord .status 0x2#32, writeWord .rxCtrl 0x1#32, writeWord .err 0x1F#32]
  _ = runLines (s.clearTxDone.respond .done) [writeWord .rxCtrl 0x1#32, writeWord .err 0x1F#32] :=
      runLines_writeWord hin rfl rfl _
  _ = runLines ((s.clearTxDone.respond .done).release.respond .done) [writeWord .err 0x1F#32] :=
      runLines_writeWord (by simpa using hin) rfl rfl _
  _ = some (served s) := runLines_writeWord (by simpa using hin) rfl rfl []

theorem runLines_mask (hin : s.resetIn = false) :
    runLines s [writeWord .ie 0x0#32] = some ((s.setIe 0#3).respond .done) :=
  runLines_writeWord hin rfl rfl []

/-- Settles O48: the formula, the state after the three writes, where no source stands, and the state after the write
of `IE`, where every source is masked. -/
theorem interruptFallsWhenItsSourcesAreServed : Obligations.InterruptFallsWhenItsSourcesAreServed :=
  ⟨irq_eq_true, fun s hin => ⟨_, runLines_serve hin, irq_served s, rfl⟩,
    fun _ hin => ⟨_, runLines_mask hin, irq_eq_false_of_masked rfl, rfl, rfl, rfl⟩⟩

end Sys2Proof.Proofs
end

section
/-! The two resets and the refusals (70_reset_and_hazards.md R270, R271): no instruction is refused, so a step is only
by its turn; the soft reset and the levels of the reset input leave every field of 10_state.md R22 at its reset value. -/

namespace Sys2Proof.Proofs

open Sys2Proof.Machine

variable {s t : State} {raw : Raw} {rest : List Input}

/-! Refusals. -/

theorem exec_not_refused (i : Instr) (s : State) (r : Refusal) : exec i s ≠ .refused r := by
  intro h
  cases i
  case txeSend x => exact s.sendChar_not_refused r h
  all_goals cases h

/-- Only the command frame format can be rejected. -/
theorem frame_of_decode_rejected {e : DecodeError} (h : decode raw = .rejected e) :
    ∃ bytes, raw = .frame bytes ∧ decodeFrame bytes = .rejected e := by
  cases raw with
  | bus | odd | event => cases h
  | frame bytes => exact ⟨bytes, rfl, h⟩

theorem turn_of_step_refused {r : Refusal} (h : step s = .refused r) : turn s = .refuse r := by
  unfold step at h
  split at h
  case h_1 i v hturn => exact absurd h (exec_not_refused i v r)
  case h_2 v hturn => cases h
  case h_3 r' hturn => cases h; exact hturn

/-- Settles O10: the two turns that refuse are an access in reset and a rejection by the decoder. -/
theorem stepRefusesOnlyInResetOrOnNoFrame : Obligations.StepRefusesOnlyInResetOrOnNoFrame := by
  intro s r h
  have hrefuse : turn s = .refuse r := turn_of_step_refused h
  obtain ⟨-, -, hturn⟩ | ⟨-, -, -, hturn⟩ | ⟨-, -, -, hturn⟩ | ⟨level, rest, -, hturn⟩ |
    ⟨x, rest, hpending, hin, haccess, hturn⟩ | ⟨x, rest, -, -, -, hturn⟩ | ⟨x, rest, i, -, -, -, hturn⟩ |
    ⟨x, rest, e, hpending, -, hdecode, hturn⟩ := turn_cases s
  all_goals cases hturn.symm.trans hrefuse
  · exact ⟨x, rest, hpending, .inl ⟨rfl, hin, haccess⟩⟩
  · obtain ⟨bytes, hframe, hrejected⟩ := frame_of_decode_rejected hdecode
    exact ⟨x, rest, hpending, .inr ⟨bytes, e, hframe, hrejected, rfl⟩⟩

/-! The soft reset. -/

/-- Settles O13: bit 31 alone selects the soft reset, whose meaning reads neither the data nor the fields it resets. -/
theorem softResetResetsInOneStep : Obligations.SoftResetResetsInOneStep :=
  ⟨fun _ hbit => decode_ctrlSrst hbit, fun _ _ => rfl⟩

/-! The reset input. -/

theorem step_of_pending_activePin {level : Bool} (hpending : s.pending = .resetPin level :: rest)
    (hactive : level = true ∨ s.resetIn = true) :
    step s = .next ((s.withPending rest).setResetIn level).resetFields := by
  have hpin : (s.withPending rest).pinReset level = ((s.withPending rest).setResetIn level).resetFields :=
    if_pos (by simpa using hactive)
  rw [step_of_pending_resetPin hpending, hpin]

theorem step_of_pending_releasedPin (hpending : s.pending = .resetPin false :: rest) (hin : s.resetIn = false) :
    step s = .next (s.withPending rest) := by
  have hpin : (s.withPending rest).pinReset false = s.withPending rest := if_neg (by simp [hin])
  rw [step_of_pending_resetPin hpending, hpin]

theorem step_of_pending_access_in_reset (hin : s.resetIn = true) (hpending : s.pending = .raw raw :: rest)
    (haccess : isHostAccess raw = true) : step s = .refused .accessInReset := by
  have hturn : turn s = .refuse .accessInReset := by
    simp [turn_of_pending_raw hpending, turnRaw, hin, haccess]
  simp only [step, hturn]

/-- In reset no instruction runs, so whatever next state a step gives is a reset one. -/
theorem step_in_reset_atReset (hin : s.resetIn = true) (h : step s = .next t) :
    t.AtReset ∧ t.outputIdles = true ∧ t.faulted = s.faulted := by
  obtain ⟨level, rest, rfl⟩ | ⟨hreleased, -⟩ | ⟨hreleased, -⟩ := step_next_cases h
  · exact ⟨resetFields_atReset _, rfl, rfl⟩
  all_goals cases hin.symm.trans hreleased

/-- Settles O11: one step equation for each of an active level, a repeated released level and an access in reset, and
the inversion of the step for everything else in reset. -/
theorem resetInputGivesEveryFieldItsResetValue : Obligations.ResetInputGivesEveryFieldItsResetValue := fun _ =>
  ⟨fun _ _ hpending hactive =>
      ⟨_, step_of_pending_activePin hpending hactive, resetFields_atReset _, rfl, rfl, rfl, rfl, rfl, rfl⟩,
    fun _ hpending hin => step_of_pending_releasedPin hpending hin,
    fun _ _ hin hpending haccess => step_of_pending_access_in_reset hin hpending haccess,
    fun _ hin hstep => step_in_reset_atReset hin hstep⟩

end Sys2Proof.Proofs
end

section
/-! A frame being sent (70_reset_and_hazards.md R282): its bytes, the position in it and the line, under every effect
of an instruction. -/

namespace Sys2Proof.Proofs

open Sys2Proof.Machine

variable {s t u : State} {i : Instr}

/-- `t` has the frame being sent, the position in it and the line of `s`: what only the engine and reset
change (R282). -/
structure SameFrame (s t : State) : Prop where
  state : t.txState = s.txState
  frame : t.txFrame = s.txFrame
  pos : t.txPos = s.txPos
  line : t.line = s.line

theorem SameFrame.trans (hst : SameFrame s t) (htu : SameFrame t u) : SameFrame s u where
  state := htu.state.trans hst.state
  frame := htu.frame.trans hst.frame
  pos := htu.pos.trans hst.pos
  line := htu.line.trans hst.line

theorem sameFrame_refl (s : State) : SameFrame s s := ⟨rfl, rfl, rfl, rfl⟩

theorem SameEngines.sameFrame (h : SameEngines s t) : SameFrame s t := by
  obtain ⟨_, _, _, _, _, _, _, _, rfl⟩ := h
  exact ⟨rfl, rfl, rfl, rfl⟩

/-! The shared operations. -/

theorem sameFrame_push (s : State) (b : Byte) : SameFrame s (s.push b) := by
  obtain ⟨-, heq⟩ | ⟨-, heq⟩ := s.push_cases b <;> rw [heq] <;> exact ⟨rfl, rfl, rfl, rfl⟩

theorem sameFrame_pushAll (s : State) (bs : List Byte) : SameFrame s (s.pushAll bs) := by
  induction bs generalizing s with
  | nil => exact sameFrame_refl s
  | cons b bs ih => exact (sameFrame_push s b).trans (ih (s.push b))

/-- The busy rule: while sending no other frame is started. -/
theorem sameFrame_unlessBusy (hsending : s.txState = .sending) (u : State) : SameFrame s (s.unlessBusy u) := by
  obtain ⟨hidle, -⟩ | ⟨-, heq⟩ := s.unlessBusy_cases u
  · cases hidle.symm.trans hsending
  · rw [heq]
    exact ⟨rfl, rfl, rfl, rfl⟩

theorem sameFrame_sendCommand (hsending : s.txState = .sending) (cmd : Byte) (p : List Byte) :
    SameFrame s (s.sendCommand cmd p) :=
  have hcmd : SameFrame s (s.setCmd cmd) := ⟨rfl, rfl, rfl, rfl⟩
  have hpushed : SameFrame s ((s.setCmd cmd).pushAll p) := hcmd.trans (sameFrame_pushAll (s.setCmd cmd) p)
  hpushed.trans (sameFrame_unlessBusy (hpushed.state.trans hsending) _)

theorem sameFrame_store (s : State) (b : Byte) : SameFrame s (s.store b) := by
  obtain ⟨-, heq⟩ | ⟨-, -, heq⟩ := s.store_cases b <;> rw [heq] <;> exact ⟨rfl, rfl, rfl, rfl⟩

theorem sameFrame_lineIn (s : State) (b : Byte) (ok : Bool) : SameFrame s (s.lineIn b ok) := by
  obtain ⟨-, heq⟩ | ⟨-, -, heq⟩ | ⟨-, -, heq⟩ := s.lineIn_cases b ok <;> rw [heq]
  · exact sameFrame_refl s
  · exact sameFrame_store s b
  · exact (sameFrame_store s b).trans ⟨rfl, rfl, rfl, rfl⟩

theorem sameFrame_lineGap (s : State) : SameFrame s s.lineGap := by
  obtain ⟨-, heq⟩ | ⟨-, heq⟩ := s.lineGap_cases <;> rw [heq] <;> exact ⟨rfl, rfl, rfl, rfl⟩

/-! Instructions. -/

theorem Effect.sameFrame (he : Effect s i u) (hsending : s.txState = .sending) (hsend : ∀ x, i ≠ .txeSend x)
    (hreset : ∀ d, i ≠ .ctrlSrst d) : SameFrame s u := by
  cases he with
  | softReset d => exact absurd rfl (hreset d)
  | sendMore x | sendLast x => exact absurd rfl (hsend x)
  | push d => exact sameFrame_push s _
  | startEncode d => exact sameFrame_unlessBusy hsending _
  | minimal hi cmd => exact sameFrame_unlessBusy hsending _
  | command hi => exact sameFrame_sendCommand hsending _ _
  | char b => exact sameFrame_lineIn s b true
  | charFerr b => exact sameFrame_lineIn s b false
  | gap x => exact sameFrame_lineGap s
  | keep | clearTxDone | clearErr | flush | reserved | release => exact ⟨rfl, rfl, rfl, rfl⟩

/-- The engine's own step moves on in its frame, or ends it with its last character. -/
theorem sendChar_frame_of_sending (hsending : s.txState = .sending) (h : s.sendChar = .next t) :
    (t.txState = .sending ∧ t.txFrame = s.txFrame ∧ t.txPos = s.txPos + 1) ∨
      (t.txState = .idle ∧ s.txPos + 1 = s.txFrame.length) := by
  obtain ⟨hidle, -⟩ | ⟨b, -, -, ⟨hlast, rfl⟩ | ⟨-, rfl⟩⟩ := s.sendChar_cases h
  · cases hidle.symm.trans hsending
  · exact .inr ⟨rfl, hlast⟩
  · exact .inl ⟨hsending, rfl, rfl⟩

/-- Settles O57: of the sixteen effects only the soft reset and those of TXE_SEND touch a frame being sent. -/
theorem frameBeingSentChangesOnlyByReset : Obligations.FrameBeingSentChangesOnlyByReset := by
  intro i s t hsending h
  constructor
  · intro hsend hreset
    obtain ⟨u, heffect, hsame⟩ := exec_effect h
    have hkept : SameFrame s t := (heffect.sameFrame hsending hsend hreset).trans hsame.sameFrame
    exact ⟨hkept.state.trans hsending, hkept.frame, hkept.pos, hkept.line⟩
  · rintro x rfl
    exact sendChar_frame_of_sending hsending h

end Sys2Proof.Proofs
end
